-- ==== Sys2Proof/Word.lean ====
section
/-! DEFINITION. The plain value types of the part: words, numbers of slices, frames, lines, channels,
initiators and sockets, and the 256-byte line (00_scope.md "The part at a glance"). -/

namespace Sys2Proof

abbrev Byte := BitVec 8

/-- One 32-bit word of the aperture, of a command word or of a response (R176). -/
abbrev Word32 := BitVec 32

/-- One 8-byte word of a line (R1). -/
abbrev Word64 := BitVec 64

/-- A line's 256 bytes, as its 32 words by word index (R1, R87). -/
abbrev Line := Vector Word64 32

abbrev SliceNo := Fin 48
abbrev FrameNo := Fin 64

/-- A line within a frame or slice (R1). -/
abbrev LineNo := Fin 16384

abbrev WordIx := Fin 32
abbrev ChanNo := Fin 4
abbrev Initiator := Fin 4

/-- Sockets A to D are 0 to 3 (R2). -/
abbrev Socket := Fin 4

/-- A subset of the initiators, initiator i in bit i (R179). -/
abbrev DomainSet := BitVec 4

/-- The presence codes of sockets A to D (R22). -/
abbrev PresenceCodes := Vector (Fin 4) 4

/-- One line of one frame (R2). -/
structure FrameLine where
  frame : FrameNo
  line : LineNo
  deriving DecidableEq, Repr

end Sys2Proof
end

