-- ==== Sys2Proof/Syntax.lean ====
section
/-! DEFINITION. The commands of the part: one constructor for each row of spec/opcode_table.json, with
what the outside gives with it. Rows without operands act on what the state holds: the 24 commands
and BAD_COMMAND take the word at the head of the command queue, whose arguments R179 places
(notes/assumptions/19.md). -/

namespace Sys2Proof

/-- What the memory reports with a line it returns (R24, R99). -/
inductive ReadOutcome where
  | clean
  | corrected
  | uncorrectable
  deriving DecidableEq, Repr

/-- Kind and size of a presented data-port transaction, with the data of a write (R87). -/
inductive PortAccess where
  | readWord
  | readLine
  | writeWord (data : Word64)
  | writeLine (data : Line)
  /-- A read or write of any size but word or line (R87). -/
  | otherSize (write : Bool)
  deriving DecidableEq, Repr

/-- The owner of a claim place (R95). -/
inductive Owner where
  | channel (c : ChanNo)
  | scrubber
  deriving DecidableEq, Repr

/-- An access at the aperture's select: who makes it, and whether it is 32 bits wide and aligned to a
multiple of 4 (R177). Not wide is any other width (DESIGN CHOICE for a wider one,
notes/assumptions/28.md). -/
structure BusAccess where
  initiator : Initiator
  wide : Bool
  aligned : Bool
  deriving DecidableEq, Repr

/-- The aperture registers whose write has no behaviour of its own (R177): the staging registers, and
the read-only ones. -/
inductive PlainReg where
  | ident
  | cmd (n : Fin 4)
  | qstat
  | rsp (n : Fin 4)
  deriving DecidableEq, Repr

/-- The commands, in the order of spec/opcode_table.json. -/
inductive Instr where
  -- power and warm restart
  | powerOnReset (codes : PresenceCodes)
  | powerGoodFall
  | warmRestart
  /-- The warm-restart input is now driven active (low) or inactive (R133, R183). -/
  | warmRestartInput (active : Bool)
  | warmRestartWrite (a : BusAccess) (value : Word32)
  -- data port and module access; a completion comes from the module port of a socket
  | dataPortTransaction (i : Initiator) (access : PortAccess) (addr : Nat)
  | dataPortReadOutcome (socket : Socket) (outcome : ReadOutcome)
  | dataPortWriteComplete (socket : Socket)
  | abandonedOperationComplete (socket : Socket) (outcome : ReadOutcome)
  | arbiterGrant (socket : Socket)
  | claimGrant (owner : Owner)
  -- migration channels
  | lineCopyBegin (c : ChanNo)
  | lineCopyReadOutcome (socket : Socket) (outcome : ReadOutcome)
  | lineCopyComplete (socket : Socket)
  | chainBrokenAbort
  | dispatchStart
  -- patrol scrubbing
  | scrubTimerExpiry
  | scrubReadOutcome (socket : Socket) (outcome : ReadOutcome)
  | scrubWriteBackComplete (socket : Socket)
  -- the inventory walk
  | inventoryWriteComplete (socket : Socket)
  | inventoryReadOutcome (socket : Socket) (outcome : ReadOutcome)
  -- writes at the control aperture
  | submit (a : BusAccess) (value : Word32)
  | rspPop (a : BusAccess) (value : Word32)
  | eventsWrite (a : BusAccess) (value : Word32)
  | eventEnableWrite (a : BusAccess) (value : Word32)
  | faultEnableWrite (a : BusAccess) (value : Word32)
  | registerWrite (a : BusAccess) (r : PlainReg) (value : Word32)
  -- takings of the command word at the head of the command queue
  | badCommand
  | map
  | unmap
  | setAttr
  | querySlice
  | lockMap
  | queryFrame
  | addSpare
  | withdrawSpare
  | retire
  | clearCounts
  | migrate
  | cancel
  | queryChannel
  | clearPoison
  | queryPoison
  | setPolicy
  | queryPart
  | adoptDefault
  | importBegin
  | importRecord
  | importEnd
  | importAbort
  | exportBegin
  | exportNext
  deriving DecidableEq, Repr

end Sys2Proof
end

