-- ==== Sys2Proof/Decode.lean ====
section
/-! DEFINITION. The command that a word spells by the bits of spec/opcode_table.json. The table gives
bits to none of its rows (every row's "fields" is empty and no row has "fixed"), so no word spells a
command (notes/assumptions/25.md). The layout of the 24 command words (R179) is in
Machine/Operands.lean: the command unit decodes them when it takes them. -/

namespace Sys2Proof

def decodeTableWord (_nbits _w : Nat) : Option Instr := none

end Sys2Proof
end

