-- ==== Sys2Proof/Config.lean ====
section
/-! DEFINITION. What an implementation or a board fixes, the capacities, and the free value. -/

namespace Sys2Proof.Config

/-- The contents of a module line that nothing has written through the part, by its module address.
A free value: no proof can learn it (R14 "whatever the frame holds"; notes/assumptions/9.md). -/
opaque unwrittenLine : Nat → Line

/-- DESIGN CHOICE, unsafe (notes/assumptions/1.md): the board population of `State.reset`, the
40-frame board of the spec's worked examples (R22's table). POWER_ON_RESET reaches every other. -/
def resetPresence : PresenceCodes := #v[3, 3, 2, 0]

/-- The restart code of WARM_RESTART (R178). -/
def restartCode : Word32 := 0x000000A5#32

/-- What IDENT reads at all times (R178). -/
def identValue : Word32 := 0x06480101#32

def spareCapacity : Nat := 64
def retireCapacity : Nat := 8
def poisonCapacity : Nat := 32
def commandCapacity : Nat := 8
def responseCapacity : Nat := 8

/-- Lines in a frame; a cursor that reaches it has copied the whole slice (R48, R60). -/
def linesPerFrame : Nat := 16384

/-- Records of a map image (R154). -/
def imageRecords : Nat := 114

end Sys2Proof.Config
end

