-- ==== Sys2Proof/Machine/Operands.lean ====
section
/-! DEFINITION. How things lie in addresses and words, with no state: the decomposition of logical
addresses (R1), where a line lies in the modules (R2), the inventory pattern (R124), bytes of words
(R176), the encodings of command arguments (R179), the bits of the event flags (R178), and the
check word's computation (R156). -/

namespace Sys2Proof.Machine

/-! ## Frames, sockets and lines (R2, R22) -/

/-- Socket of a frame: F ÷ 16 (R2). -/
def socketOf (f : FrameNo) : Socket := ⟨f.val / 16, by omega⟩

/-- Byte position of a frame line within its socket's module space (R2). -/
def bytePos (fl : FrameLine) : Nat := fl.frame.val % 16 * 0x400000 + fl.line.val * 256

/-- One number for each frame line of the four modules: the socket's 64 MiB, then R2's position. -/
def moduleKey (fl : FrameLine) : Nat := (socketOf fl.frame).val * 0x4000000 + bytePos fl

/-- Frames fitted in a socket, by its presence code (R22). -/
def fitted : Fin 4 → Nat
  | 0 => 0
  | 1 => 4
  | 2 => 8
  | 3 => 16

/-- R22: frame F is present when F mod 16 is less than the number fitted in socket F ÷ 16. -/
def presentIn (codes : PresenceCodes) (f : FrameNo) : Bool :=
  decide (f.val % 16 < fitted codes[socketOf f])

/-- The lowest-numbered present frame (R123). -/
def firstPresent (codes : PresenceCodes) : Option FrameNo :=
  (List.finRange 64).find? (presentIn codes)

/-- The inventory pattern of a line: word w holds (F mod 16) × 4 MiB + L × 256 + w × 8 (R124). -/
def patternLine (fl : FrameLine) : Line :=
  Vector.ofFn fun w => BitVec.ofNat 64 (bytePos fl + w.val * 8)

/-- The all-zero line a channel writes for lost data (R58). -/
def zeroLine : Line := Vector.replicate 32 0#64

/-- Line number n, for n below 16,384. -/
def lineNo (n : Nat) : LineNo := Fin.ofNat 16384 n

/-! ## Logical addresses (R1, R87) -/

/-- Slice of a logical address; none at or above 0x0C00_0000 (R1). -/
def addrSlice (addr : Nat) : Option SliceNo :=
  if h : addr / 0x400000 < 48 then some ⟨addr / 0x400000, h⟩ else none

/-- Line within its slice (R1). -/
def addrLine (addr : Nat) : LineNo := ⟨addr % 0x400000 / 256, by omega⟩

/-- Word index of a word transaction: (address mod 256) ÷ 8, the low three bits ignored (R87). -/
def addrWord (addr : Nat) : WordIx := ⟨addr % 256 / 8, by omega⟩

/-! ## Bytes of words (R176) -/

/-- Byte n of a word: bits 8n + 7 to 8n (R176). -/
def byteOf (w : Word32) (n : Nat) : Nat := w.toNat / 256 ^ n % 256

/-- The low half, bits 15 to 0 (R176). -/
def lowHalf (w : Word32) : Nat := w.toNat % 65536

/-- A word from its bytes 0, 1, 2, 3 in turn (R181). -/
def word4 (b0 b1 b2 b3 : Nat) : Word32 :=
  BitVec.ofNat 32 (b0 % 256 + b1 % 256 * 256 + b2 % 256 * 65536 + b3 % 256 * 16777216)

/-- A word from its low and its high half (R176). -/
def word2 (low high : Nat) : Word32 := BitVec.ofNat 32 (low % 65536 + high % 65536 * 65536)

/-- A byte field that can have no value reads 0xFF then (R176). -/
def orNone : Option Nat → Nat
  | some n => n
  | none => 0xFF

/-! ## Arguments of command words (R179) -/

/-- One command word: the four staging registers, or an entry of the command queue (R138). -/
structure CmdWord where
  cmd0 : Word32
  cmd1 : Word32
  cmd2 : Word32
  cmd3 : Word32
  deriving DecidableEq, Repr

/-- CMD0 byte 0 (R179). -/
def cmdCode (w : CmdWord) : Byte := w.cmd0.extractLsb' 0 8

/-- CMD0 byte 1 (R179). -/
def cmdTag (w : CmdWord) : Byte := w.cmd0.extractLsb' 8 8

/-- The codes of the 24 commands (R179). -/
def knownCodes : List Byte :=
  [0x10, 0x11, 0x12, 0x13, 0x14, 0x20, 0x21, 0x22, 0x23, 0x24, 0x30, 0x31, 0x32, 0x40, 0x41,
   0x50, 0x51, 0x52, 0x60, 0x61, 0x62, 0x63, 0x68, 0x69]

/-- A slice number above 47 is out of range (R147). -/
def argSlice (b : Nat) : Option SliceNo := if h : b < 48 then some ⟨b, h⟩ else none

/-- A frame number above 63 is out of range (R147). -/
def argFrame (b : Nat) : Option FrameNo := if h : b < 64 then some ⟨b, h⟩ else none

/-- A channel above 3 is out of range (R147). -/
def argChan (b : Nat) : Option ChanNo := if h : b < 4 then some ⟨b, h⟩ else none

/-- A line above 16,383 is out of range (R147). -/
def argLine (n : Nat) : Option LineNo := if h : n < 16384 then some ⟨n, h⟩ else none

/-- MAP's frame field: ANY is 0xFF (R179); `none` inside is ANY. -/
def argFrameOrAny (b : Nat) : Option (Option FrameNo) :=
  if b = 0xFF then some none else (argFrame b).map some

/-- MIGRATE's target field: SPARE is 0xFE (R179); `none` inside is SPARE. -/
def argFrameOrSpare (b : Nat) : Option (Option FrameNo) :=
  if b = 0xFE then some none else (argFrame b).map some

/-- MIGRATE's channel field: ANY is 0xFF (R179); `none` inside is ANY. -/
def argChanOrAny (b : Nat) : Option (Option ChanNo) :=
  if b = 0xFF then some none else (argChan b).map some

/-- MIGRATE's start field: NOW is 0x00, AFTER j is 0x80 + j (R179); `none` inside is NOW. -/
def argStart (b : Nat) : Option (Option ChanNo) :=
  if b = 0 then some none
  else if 0x80 ≤ b then (argChan (b - 0x80)).map some
  else none

/-- Write protect: bit 0 of its byte (R179). -/
def argProtect (b : Nat) : Bool := b % 2 = 1

/-- Domain set: bits 3:0 of its byte (R179). -/
def argDomain (b : Nat) : DomainSet := BitVec.ofNat 4 b

/-! ## Event flags (R178) -/

/-- The thirteen event flags (R168). -/
inductive Flag where
  | responseReady
  | cmdOverrun
  | migDone
  | migAborted
  | frameSuspect
  | frameRetired
  | spareLow
  | spareEmpty
  | poisonAdded
  | poisonFull
  | uncorrectable
  | inventoryDone
  | warmStart
  deriving DecidableEq, Repr

/-- A flag's bit in EVENTS and EVENT_ENABLE (R178). -/
def Flag.bit : Flag → Nat
  | .responseReady => 0
  | .cmdOverrun => 1
  | .migDone => 2
  | .migAborted => 3
  | .frameSuspect => 4
  | .frameRetired => 5
  | .spareLow => 6
  | .spareEmpty => 7
  | .poisonAdded => 8
  | .poisonFull => 9
  | .uncorrectable => 10
  | .inventoryDone => 11
  | .warmStart => 12

/-- The set that holds one flag. -/
def Flag.mask (f : Flag) : BitVec 13 := BitVec.twoPow 13 f.bit

/-! ## The check word (R156) -/

/-- One bit into the 32-bit register (R156). -/
def crcBit (r : Word32) (b : Bool) : Word32 :=
  if r.msb = b then r <<< 1 else r <<< 1 ^^^ 0x04C11DB7#32

/-- One byte, its eight bits most significant first (R156). -/
def crcByte (r : Word32) (b : Byte) : Word32 :=
  (List.range 8).foldl (fun r i => crcBit r (b.getLsbD (7 - i))) r

/-- Byte n of an image record; byte 0 is the most significant (R179, R182). -/
def recByte (img : Word64) (n : Nat) : Nat := img.toNat / 256 ^ (7 - n) % 256

/-- A record's bytes 0 to 7 into the register (R156). -/
def crcRecord (r : Word32) (img : Word64) : Word32 :=
  (List.range 8).foldl (fun r n => crcByte r (BitVec.ofNat 8 (recByte img n))) r

/-- The register before the first byte: every bit 1 (R156). -/
def crcStart : Word32 := 0xFFFFFFFF#32

/-- An image record from its 8 bytes, byte 0 first. -/
def record8 (b0 b1 b2 b3 b4 b5 b6 b7 : Nat) : Word64 :=
  word4 b3 b2 b1 b0 ++ word4 b7 b6 b5 b4

end Sys2Proof.Machine
end

