-- ==== Sys2Proof/Machine/State.lean ====
section
/-! DEFINITION. The state of the part, block by block (INVENTORY.md "State"), the outcomes a step can
have besides a next state, and the state after power-on reset. -/

namespace Sys2Proof.Machine

/-! ## Map unit (chapter 1) -/

/-- State of a slice record with the fields that each state has (R3). -/
inductive SliceLoc where
  | unmapped
  | mapped (source : FrameNo)
  | migrating (source : FrameNo) (channel : ChanNo)
  deriving DecidableEq, Repr

/-- One slice record (section 1.2). -/
structure SliceRec where
  loc : SliceLoc
  protect : Bool
  domain : DomainSet
  deriving DecidableEq, Repr

/-- The map phase (R120). -/
inductive Phase where
  | inventory
  | staged
  | importing
  | active
  deriving DecidableEq, Repr

/-! ## Frame unit (chapter 2) -/

/-- State of a frame record (R23). -/
inductive FrameState where
  | absent
  | untested
  | free
  | spare
  | bound (slice : SliceNo)
  | target
  | retired
  deriving DecidableEq, Repr

/-- Why a frame was marked suspect (section 2.2). -/
inductive Cause where
  | inventory
  | threshold
  | uncorrectable
  | software
  | imported
  deriving DecidableEq, Repr

/-- One frame record (section 2.2); `suspect` holds the cause while the suspect flag is on. -/
structure FrameRec where
  state : FrameState
  suspect : Option Cause
  corrected : Nat
  uncorrectable : Nat
  deriving DecidableEq, Repr

/-! ## Migration engine (chapter 3) -/

/-- Where an aborted migration's target goes back to (R51, R64). -/
inductive Origin where
  | spare
  | free
  deriving DecidableEq, Repr

/-- Who started a migration (R49). -/
inductive InitiatedBy where
  | command
  | auto
  deriving DecidableEq, Repr

/-- The fields of a channel record that ARMED and RUNNING share (R47). `after` is the start condition:
`none` is NOW. -/
structure Migration where
  slice : SliceNo
  target : FrameNo
  origin : Origin
  after : Option ChanNo
  by_ : InitiatedBy
  cursor : Nat
  poisoned : Nat
  deriving DecidableEq, Repr

/-- State of a channel (R48); RUNNING has its source frame too. -/
inductive ChanState where
  | idle
  | armed (m : Migration)
  | running (m : Migration) (source : FrameNo)
  deriving DecidableEq, Repr

/-- How a channel's last migration ended (R49). -/
inductive LastOutcome where
  | none
  | committed
  | cancelled
  | chainBroken
  | targetRetired
  | poisonFull
  | reset
  deriving DecidableEq, Repr

/-- One channel record (R47). The claimed line is read from the claim table (R95). -/
structure Channel where
  state : ChanState
  last : LastOutcome
  deriving DecidableEq, Repr

/-! ## Data port and module access (chapter 5) -/

/-- A transaction after address decode: kind, size, word index and write data (R88). -/
inductive TxnOp where
  | readWord (w : WordIx)
  | readLine
  | writeWord (w : WordIx) (data : Word64)
  | writeLine (data : Line)
  deriving DecidableEq, Repr

structure Txn where
  op : TxnOp
  slice : SliceNo
  line : LineNo
  deriving DecidableEq, Repr

/-- State of a transaction record (R88). -/
inductive TxnState where
  | idle
  | held (t : Txn) (owner : Owner)
  | steered (t : Txn) (source : FrameNo) (target : Option FrameNo) (outstanding : Nat)
  deriving DecidableEq, Repr

/-- The seven response codes of the data port (R103). -/
inductive PortResp where
  | okay
  | unmapped
  | denied
  | protected_
  | poisoned
  | uncorrectable
  | aborted
  deriving DecidableEq, Repr

/-- Data carried by a response (R100, R103). -/
inductive PortData where
  | none
  | word (d : Word64)
  | line (d : Line)
  deriving DecidableEq, Repr

structure PortAnswer where
  resp : PortResp
  data : PortData
  deriving DecidableEq, Repr

/-- One initiator's side of the data port: its transaction record (R88) and the answer last returned
on the bus, cleared when a transaction is taken (notes/assumptions/8.md). -/
structure Port where
  txn : TxnState
  answer : Option PortAnswer
  deriving DecidableEq, Repr

/-- A place of the claim table (R95). -/
inductive Place where
  | empty
  | requested (fl : FrameLine)
  | claimed (fl : FrameLine) (held : List Initiator)
  deriving DecidableEq, Repr

/-- Who asked an arbiter for a module operation (R105). -/
inductive Requester where
  | dataPort (i : Initiator)
  | scrubber
  | channel (c : ChanNo)
  | inventory
  deriving DecidableEq, Repr

/-- What a module operation does to its frame line (R99). -/
inductive OpAct where
  | read
  | writeWord (w : WordIx) (data : Word64)
  | writeLine (data : Line)
  deriving DecidableEq, Repr

/-- Whether a granted operation still belongs to the work that asked for it: `aborted` when that
migration has aborted (R65), `restarted` when a warm restart has ended the work (R104, R119, R135). -/
inductive Standing where
  | live
  | aborted
  | restarted
  deriving DecidableEq, Repr

/-- One module operation (R99). -/
structure ModOp where
  req : Requester
  fl : FrameLine
  act : OpAct
  standing : Standing
  deriving DecidableEq, Repr

/-- A socket's arbiter with its module port: operations requested and not granted in request order, the
channel last granted, and operations granted and not completed in grant order (R105, R106). -/
structure Arbiter where
  waiting : List ModOp
  lastChan : ChanNo
  port : List ModOp
  deriving DecidableEq, Repr

/-- The contents of the modules' lines as written through the ports, by module address, addresses
strictly rising. An address not listed has not been written (notes/assumptions/9.md). -/
abbrev Modules := List (Nat × Line)

/-! ## Patrol scrubber (chapter 6) -/

inductive ScrubStage where
  | none
  | claiming
  | reading
  | writingBack
  deriving DecidableEq, Repr

/-- The scrubber's state (R107). `timer` is the microseconds counted; `none` while not counting, which
is run state STOPPED. -/
structure Scrubber where
  frame : FrameNo
  line : LineNo
  passCount : BitVec 16
  stage : ScrubStage
  expiryPending : Bool
  timer : Option Nat
  deriving DecidableEq, Repr

/-! ## Bring-up unit (chapter 7) -/

inductive TestPass where
  | write
  | read
  deriving DecidableEq, Repr

/-- The walk's operation outstanding: a write or a read (R123). -/
inductive WalkOp where
  | write
  | read
  deriving DecidableEq, Repr

/-- The inventory walk's state (R123); `running` off is DONE. -/
structure Walk where
  running : Bool
  frame : Option FrameNo
  pass : TestPass
  line : LineNo
  failed : Bool
  outstanding : Option WalkOp
  deriving DecidableEq, Repr

/-! ## Command unit (chapters 8 and 9) -/

/-- The thirteen status codes (R149). -/
inductive Status where
  | ok
  | badCommand
  | badArg
  | wrongPhase
  | wrongState
  | busy
  | locked
  | noFrame
  | noChannel
  | sequence
  | checkFailed
  | mismatch
  | stale
  deriving DecidableEq, Repr

/-- An entry of the response queue (R143). -/
structure Response where
  tag : Byte
  code : Byte
  status : Status
  rsp1 : Word32
  rsp2 : Word32
  rsp3 : Word32
  deriving DecidableEq, Repr

/-- The policy record (R150). -/
structure Policy where
  autoRetire : Bool
  threshold : Nat
  spareLow : Nat
  scrubInterval : Nat
  defaultReserve : Nat
  deriving DecidableEq, Repr

/-- A RUNNING export session (R157). -/
structure ExportSession where
  cursor : Nat
  savedGen : BitVec 16
  check : Word32
  deriving DecidableEq, Repr

/-- Frame states an image can hold (R155). -/
inductive ImgState where
  | absent
  | free
  | spare
  | bound
  | retired
  deriving DecidableEq, Repr

structure ImgHeader where
  present : Nat
  generation : BitVec 16
  deriving DecidableEq, Repr

/-- An accepted FRAME record (R155). -/
structure ImgFrame where
  state : ImgState
  bound : Option SliceNo
  sparePos : Option (Fin 64)
  suspect : Option Cause
  corrected : Nat
  uncorrectable : Nat
  deriving DecidableEq, Repr

/-- An accepted SLICE record (R155). -/
structure ImgSlice where
  mapped : Bool
  protect : Bool
  domain : DomainSet
  deriving DecidableEq, Repr

/-- An open import session (R160). -/
structure ImportSession where
  expected : Nat
  check : Word32
  header : Option ImgHeader
  frames : Vector (Option ImgFrame) 64
  slices : Vector (Option ImgSlice) 48
  received : Option Word32
  deriving DecidableEq, Repr

/-! ## Control aperture (chapter 11) -/

/-- Answer to an access at the aperture (R177). -/
inductive ApReply where
  | okay
  | denied
  deriving DecidableEq, Repr

/-! ## The part -/

/-- Everything the spec gives the part, and the model's queue of waiting commands. -/
structure State where
  /-- Commands that wait, first in, first out (the model's own). -/
  pending : List Instr
  /-- Power-good is high (R122). -/
  powered : Bool
  /-- The warm-restart input is active (R133). -/
  warmPin : Bool
  /-- Warm-restart requests not yet taken (R133). -/
  warmReq : Nat
  /-- Presence codes as sampled at power-on (R22). -/
  presence : PresenceCodes
  slices : Vector SliceRec 48
  generation : BitVec 16
  locked : Bool
  frames : Vector FrameRec 64
  spareQ : List FrameNo
  retireQ : List FrameNo
  chans : Vector Channel 4
  /-- ARMED channels that have stopped waiting and are still to abort CHAIN_BROKEN, in the order of
  their aborts (R66; DEDUCED, notes/assumptions/6.md). -/
  broken : List ChanNo
  poison : List (SliceNo × LineNo)
  ports : Vector Port 4
  /-- The claim table: places of channels 0 to 3, then the scrubber's (R95). -/
  places : Vector Place 5
  /-- Owners whose place is REQUESTED, in the order they asked (R96). -/
  reqOrder : List Owner
  arbs : Vector Arbiter 4
  modules : Modules
  scrub : Scrubber
  phase : Phase
  walk : Walk
  staging : CmdWord
  cmdQ : List CmdWord
  rspQ : List Response
  policy : Policy
  exportS : Option ExportSession
  importS : Option ImportSession
  /-- The sticky event flags (R168); RESPONSE_READY is not stored but follows `rspQ` (R170). -/
  flags : BitVec 13
  eventEnable : BitVec 13
  faultEnable : Bool
  /-- Answer of the last access at the aperture that a command made (notes/assumptions/8.md). -/
  apReply : Option ApReply
  deriving DecidableEq, Repr

/-- Reasons to stop with a fault. There is none: the part reports every condition in its state
(status codes, response codes, flags) and goes on. -/
inductive Fault where
  deriving DecidableEq, Repr

/-- Reasons to refuse a command. -/
inductive Refusal where
  /-- A command that has no meaning yet. No arm of `exec` raises it. Safe. -/
  | notModelled (mnemonic : String)
  deriving DecidableEq, Repr

/-! ## Power-on reset -/

/-- The policy record's power-on values (R150). -/
def Policy.powerOn : Policy :=
  { autoRetire := true, threshold := 16, spareLow := 2, scrubInterval := 100, defaultReserve := 4 }

/-- The first operation of the inventory walk (R122): the write of line 0 of frame `f`. -/
def firstWrite (f : FrameNo) : ModOp :=
  { req := .inventory, fl := ⟨f, 0⟩, act := .writeLine (patternLine ⟨f, 0⟩), standing := .live }

/-- Every block at its power-on values with the given presence codes sampled (R122, R123, R128). What
is outside the part, or the model's own, is given: the queue of commands, the level of the
warm-restart pin and the contents of the modules. -/
def State.powerOn (codes : PresenceCodes) (pending : List Instr) (warmPin : Bool)
    (modules : Modules) : State :=
  let first := firstPresent codes
  { pending := pending
    powered := true
    warmPin := warmPin
    warmReq := 0
    presence := codes
    slices := Vector.replicate 48 { loc := .unmapped, protect := false, domain := 0xF#4 }
    generation := 0
    locked := false
    frames := Vector.ofFn fun f =>
      { state := if presentIn codes f then .untested else .absent
        suspect := none, corrected := 0, uncorrectable := 0 }
    spareQ := []
    retireQ := []
    chans := Vector.replicate 4 { state := .idle, last := .none }
    broken := []
    poison := []
    ports := Vector.replicate 4 { txn := .idle, answer := none }
    places := Vector.replicate 5 .empty
    reqOrder := []
    arbs := Vector.ofFn fun k =>
      { waiting := match first with
          | some f => if socketOf f = k then [firstWrite f] else []
          | none => []
        lastChan := 3
        port := [] }
    modules := modules
    scrub :=
      { frame := 0, line := 0, passCount := 0, stage := .none, expiryPending := false
        timer := if first.isNone then some 0 else none }
    phase := if first.isNone then .staged else .inventory
    walk :=
      { running := first.isSome, frame := first, pass := .write, line := 0, failed := false
        outstanding := if first.isSome then some .write else none }
    staging := ⟨0, 0, 0, 0⟩
    cmdQ := []
    rspQ := []
    policy := Policy.powerOn
    exportS := none
    importS := none
    flags := if first.isNone then Flag.inventoryDone.mask else 0
    eventEnable := 0
    faultEnable := false
    apReply := none }

/-- The part right after power-on reset, on the board of `Config.resetPresence`
(notes/assumptions/1.md), with the warm-restart pin inactive (notes/assumptions/11.md). -/
def State.reset : State := State.powerOn Config.resetPresence [] false []

end Sys2Proof.Machine
end

