-- ==== Sys2Proof/Machine/Flags.lean ====
section
/-! DEFINITION. The event flags, their clearing, and the two outputs (chapter 10). -/

namespace Sys2Proof.Machine

/-- Set one sticky flag; a set flag stays set (R169). -/
def State.raise (s : State) (f : Flag) : State := { s with flags := s.flags ||| f.mask }

/-- Set a flag if the condition holds. -/
def State.raiseIf (s : State) (b : Bool) (f : Flag) : State := if b then s.raise f else s

/-- The thirteen flags: the sticky ones as stored, RESPONSE_READY as the response queue makes it
(R168, R170). -/
def State.events (s : State) : BitVec 13 :=
  s.flags ||| if s.rspQ.isEmpty then 0 else Flag.responseReady.mask

/-- Whether one flag is set. -/
def State.flagSet (s : State) (f : Flag) : Bool := s.events.getLsbD f.bit

/-- Clear the sticky flags named by ones (R171). -/
def State.clearFlags (s : State) (v : BitVec 13) : State := { s with flags := s.flags &&& ~~~v }

/-- ATTN is asserted while an enabled flag is set, and never while power-good is low (R173). -/
def State.attn (s : State) : Bool := s.powered && decide (s.events &&& s.eventEnable ≠ 0)

/-- FAULT is asserted while UNCORRECTABLE is set and the fault-enable bit is on, and never while
power-good is low (R174). -/
def State.fault (s : State) : Bool := s.powered && s.flagSet .uncorrectable && s.faultEnable

end Sys2Proof.Machine
end

