-- ==== Sys2Proof/Machine/Ops.lean ====
section
/-! DEFINITION. The shared operations of the part's blocks: records and their updates, the contents of
the modules, counts and suspect marking, the spare and retire queues, the poison list, the arbiters,
claims, steering and re-translation, the scrub of a line, starts and aborts of channels, and the
taking of a command. -/

namespace Sys2Proof.Machine

/-! ## Records -/

/-- While power-good is low the part does nothing (R122). -/
def State.whenOn (s t : State) : State := if s.powered then t else s

def State.slice (s : State) (i : SliceNo) : SliceRec := s.slices[i]
def State.frame (s : State) (f : FrameNo) : FrameRec := s.frames[f]
def State.chan (s : State) (c : ChanNo) : Channel := s.chans[c]
def State.port (s : State) (i : Initiator) : Port := s.ports[i]
def State.arb (s : State) (k : Socket) : Arbiter := s.arbs[k]

/-- The claim table's place of an owner (R95). -/
def ownerPlace : Owner → Fin 5
  | .channel 0 => 0
  | .channel 1 => 1
  | .channel 2 => 2
  | .channel 3 => 3
  | .scrubber => 4

def State.place (s : State) (o : Owner) : Place := s.places[ownerPlace o]

def State.setSlice (s : State) (i : SliceNo) (r : SliceRec) : State :=
  { s with slices := s.slices.set i r }
def State.setFrame (s : State) (f : FrameNo) (r : FrameRec) : State :=
  { s with frames := s.frames.set f r }
def State.setChan (s : State) (c : ChanNo) (r : Channel) : State :=
  { s with chans := s.chans.set c r }
def State.setPort (s : State) (i : Initiator) (p : Port) : State :=
  { s with ports := s.ports.set i p }
def State.setArb (s : State) (k : Socket) (a : Arbiter) : State :=
  { s with arbs := s.arbs.set k a }
def State.setPlace (s : State) (o : Owner) (p : Place) : State :=
  { s with places := s.places.set (ownerPlace o) p }

/-- Give a frame another state, its suspect flag and counts kept. -/
def State.setFrameState (s : State) (f : FrameNo) (st : FrameState) : State :=
  s.setFrame f { s.frame f with state := st }

/-- Change where a slice lies, its attributes kept (R7). -/
def State.setLoc (s : State) (i : SliceNo) (l : SliceLoc) : State :=
  s.setSlice i { s.slice i with loc := l }

def SliceLoc.source : SliceLoc → Option FrameNo
  | .unmapped => none
  | .mapped f => some f
  | .migrating f _ => some f

def SliceLoc.channel : SliceLoc → Option ChanNo
  | .migrating _ c => some c
  | _ => none

/-- State and source of a slice record, without the migrating channel (R9): UNMAPPED, or the source
and whether it is MIGRATING. -/
def SliceLoc.kind : SliceLoc → Option (FrameNo × Bool)
  | .unmapped => none
  | .mapped f => some (f, false)
  | .migrating f _ => some (f, true)

/-- The generation advances by one, wrapping (R9, R10). -/
def State.bump (s : State) : State := { s with generation := s.generation + 1 }

def State.bumpIf (s : State) (b : Bool) : State := if b then s.bump else s

/-- The map changes of R9 between the state before and after an event: a slice record's state, source,
write protect or domain set, a frame's state, a suspect flag set, the spare queue. -/
def State.mapChanged (s t : State) : Bool :=
  s.spareQ != t.spareQ ||
  (List.finRange 48).any (fun i =>
    (s.slice i).loc.kind != (t.slice i).loc.kind ||
    (s.slice i).protect != (t.slice i).protect || (s.slice i).domain != (t.slice i).domain) ||
  (List.finRange 64).any fun f =>
    (s.frame f).state != (t.frame f).state ||
    ((s.frame f).suspect.isNone && (t.frame f).suspect.isSome)

/-- The fields a channel has while ARMED or RUNNING (R47). -/
def ChanState.migration : ChanState → Option Migration
  | .idle => none
  | .armed m => some m
  | .running m _ => some m

/-- Replace the fields that ARMED and RUNNING share. -/
def ChanState.withMigration (m : Migration) : ChanState → ChanState
  | .idle => .idle
  | .armed _ => .armed m
  | .running _ f => .running m f

/-- The channel ARMED or RUNNING that names a frame as target (R23). -/
def State.targetChan (s : State) (f : FrameNo) : Option ChanNo :=
  (List.finRange 4).find? fun c =>
    match (s.chan c).state.migration with
    | some m => m.target == f
    | none => false

/-- The lowest-numbered IDLE channel (R51, R72). -/
def State.idleChan (s : State) : Option ChanNo :=
  (List.finRange 4).find? fun c => (s.chan c).state == .idle

/-- Claimed line of a channel: its place's line, while CLAIMED (R95). -/
def State.claimedLine (s : State) (c : ChanNo) : Option LineNo :=
  match s.place (.channel c) with
  | .claimed fl _ => some fl.line
  | _ => none

/-! ## Contents of the modules -/

/-- The line stored at an address, if one is. -/
def readLine : Modules → Nat → Option Line
  | [], _ => none
  | (a, d) :: rest, k => if k = a then some d else readLine rest k

/-- Store a line, keeping the addresses strictly rising. -/
def storeLine : Modules → Nat → Line → Modules
  | [], k, d => [(k, d)]
  | (a, e) :: rest, k, d =>
    if k < a then (k, d) :: (a, e) :: rest
    else if k = a then (k, d) :: rest
    else (a, e) :: storeLine rest k d

/-- The canonical form: addresses strictly rising. -/
abbrev modulesWf (m : Modules) : Prop := (m.map Prod.fst).Pairwise (· < ·)

/-- What a frame line holds (R99); a line that nothing has written holds a free value. -/
def State.contents (s : State) (fl : FrameLine) : Line :=
  (readLine s.modules (moduleKey fl)).getD (Config.unwrittenLine (moduleKey fl))

/-- The line that a completed operation leaves on its frame line (R99). -/
def OpAct.result (a : OpAct) (old : Line) : Line :=
  match a with
  | .read => old
  | .writeWord w d => old.set w d
  | .writeLine d => d

def OpAct.isWrite : OpAct → Bool
  | .read => false
  | _ => true

/-! ## Spare queue (section 2.5) -/

/-- Take a frame out of the spare queue, with the checks R35 makes at every removal. The caller gives
the frame its new state in the same event. -/
def State.removeSpare (s : State) (f : FrameNo) : State :=
  let q := s.spareQ.erase f
  (({ s with spareQ := q }.raiseIf (q.length < s.policy.spareLow) .spareLow)).raiseIf q.isEmpty
    .spareEmpty

/-- A frame becomes SPARE at the tail of the queue (R34). -/
def State.joinSpare (s : State) (f : FrameNo) : State :=
  let s' := s.setFrameState f .spare
  { s' with spareQ := s'.spareQ ++ [f] }

/-! ## Suspect marking, retirement and the retire queue (sections 2.4, 2.6) -/

/-- States in which an outcome marks a frame, and in which the scrubber visits it (R25, R26, R110). -/
def FrameState.inUse : FrameState → Bool
  | .free => true
  | .spare => true
  | .bound _ => true
  | _ => false

def FrameState.isBound : FrameState → Bool
  | .bound _ => true
  | _ => false

/-- A frame becomes RETIRED, keeping its cause and counts, and FRAME_RETIRED is set (R32). -/
def State.retireFrame (s : State) (f : FrameNo) : State :=
  (s.setFrameState f .retired).raise .frameRetired

/-- The flag goes on with its cause, and FRAME_SUSPECT is set (R27). -/
def State.setSuspect (s : State) (f : FrameNo) (c : Cause) : State :=
  (s.setFrame f { s.frame f with suspect := some c }).raise .frameSuspect

/-- A suspect marking of a FREE, SPARE or BOUND frame with what its state calls for (R28 to R30). The
caller advances the generation, once for its event. -/
def State.markSuspect (s : State) (f : FrameNo) (c : Cause) : State :=
  let s' := s.setSuspect f c
  match (s.frame f).state with
  | .free => s'.retireFrame f
  | .spare => (s'.removeSpare f).retireFrame f
  | .bound _ =>
    if s'.retireQ.length < Config.retireCapacity then { s' with retireQ := s'.retireQ ++ [f] }
    else s'
  | _ => s'

/-- A suspect BOUND frame that stands outside the retire queue (R30, R40). -/
def State.waitsUnqueued (s : State) (f : FrameNo) : Bool :=
  (s.frame f).state.isBound && (s.frame f).suspect.isSome && !s.retireQ.contains f

/-- A frame that has become RETIRED leaves the retire queue, and the refill rule runs (R37, R38). A
frame that is not queued leaves the queue as it is. -/
def State.leaveRetireQ (s : State) (f : FrameNo) : State :=
  if s.retireQ.contains f then
    let s' := { s with retireQ := s.retireQ.erase f }
    match (List.finRange 64).find? s'.waitsUnqueued with
    | some g => { s' with retireQ := s'.retireQ ++ [g] }
    | none => s'
  else s

/-- A BOUND frame loses its slice, at UNMAP or at a commit: FREE, or RETIRED if suspect (R17, R60). -/
def State.releaseFrame (s : State) (f : FrameNo) : State :=
  if (s.frame f).suspect.isSome then (s.retireFrame f).leaveRetireQ f
  else s.setFrameState f .free

/-! ## Error counts (section 2.3) -/

/-- One more, saturating at 255 (R24). -/
def satAdd (n k : Nat) : Nat := min 255 (n + k)

/-- Count an outcome against a frame and change nothing else (R24). -/
def State.countOnly (s : State) (f : FrameNo) (o : ReadOutcome) : State :=
  match o with
  | .clean => s
  | .corrected => s.setFrame f { s.frame f with corrected := satAdd (s.frame f).corrected 1 }
  | .uncorrectable =>
    s.setFrame f { s.frame f with uncorrectable := satAdd (s.frame f).uncorrectable 1 }

/-- The cause with which an outcome, now counted, marks its frame, if it does (R25, R26). -/
def State.markingCause (s : State) (f : FrameNo) (o : ReadOutcome) : Option Cause :=
  if (s.frame f).state.inUse && (s.frame f).suspect.isNone then
    match o with
    | .clean => none
    | .corrected =>
      if s.policy.threshold ≤ (s.frame f).corrected then some .threshold else none
    | .uncorrectable => some .uncorrectable
  else none

/-- Count an outcome and make the marking that follows; the caller advances the generation if
`marks` says that a marking is made (R24 to R30). -/
def State.countAndMark (s : State) (f : FrameNo) (o : ReadOutcome) : State :=
  let s' := s.countOnly f o
  match s'.markingCause f o with
  | some c => s'.markSuspect f c
  | none => s'

/-- Whether counting this outcome marks the frame. -/
def State.marks (s : State) (f : FrameNo) (o : ReadOutcome) : Bool :=
  ((s.countOnly f o).markingCause f o).isSome

/-- Count, mark, and advance the generation for the marking (R24 to R27). -/
def State.takeOutcome (s : State) (f : FrameNo) (o : ReadOutcome) : State :=
  (s.countAndMark f o).bumpIf (s.marks f o)

/-! ## Poison list (chapter 4) -/

inductive PoisonResult where
  | present
  | added
  | full
  deriving DecidableEq, Repr

/-- Answer to a request to add an entry (R77). -/
def State.poisonResult (s : State) (i : SliceNo) (l : LineNo) : PoisonResult :=
  if s.poison.contains (i, l) then .present
  else if s.poison.length < Config.poisonCapacity then .added
  else .full

/-- A request to add an entry, with its flag (R77). -/
def State.addPoison (s : State) (i : SliceNo) (l : LineNo) : State :=
  match s.poisonResult i l with
  | .present => s
  | .added => { s with poison := s.poison ++ [(i, l)] }.raise .poisonAdded
  | .full => s.raise .poisonFull

/-- Remove an entry; those behind it close up (R75). -/
def State.dropPoison (s : State) (i : SliceNo) (l : LineNo) : State :=
  { s with poison := s.poison.erase (i, l) }

/-- Entries naming a slice (R76). -/
def State.poisonOf (s : State) (i : SliceNo) : Nat := s.poison.countP fun e => e.1 == i

/-! ## Arbiters and module ports (section 5.7) -/

/-- Request an operation at the arbiter of its frame's socket (R105). -/
def State.request (s : State) (op : ModOp) : State :=
  let k := socketOf op.fl.frame
  s.setArb k { s.arb k with waiting := (s.arb k).waiting ++ [op] }

/-- A new operation of work that is still under way. -/
def liveOp (r : Requester) (fl : FrameLine) (a : OpAct) : ModOp :=
  { req := r, fl := fl, act := a, standing := .live }

/-- The operations with no earlier-requested one on the same frame line (R105). -/
def eligibleOps : List FrameLine → List ModOp → List ModOp
  | _, [] => []
  | seen, op :: rest =>
    if seen.contains op.fl then eligibleOps seen rest
    else op :: eligibleOps (op.fl :: seen) rest

def Requester.isDataPort : Requester → Bool
  | .dataPort _ => true
  | _ => false

/-- The channels' order of turns after the one last granted (R106). -/
def turnsAfter (c : ChanNo) : List ChanNo := [c + 1, c + 2, c + 3, c]

/-- The operation an arbiter grants next (R106): the data port's oldest, then the scrubber's, then the
channels' in rotation; the inventory's stands alone. -/
def Arbiter.choose (a : Arbiter) : Option ModOp :=
  let el := eligibleOps [] a.waiting
  (el.find? fun op => op.req.isDataPort).or <|
  (el.find? fun op => op.req == .scrubber).or <|
  ((turnsAfter a.lastChan).findSome? fun c => el.find? fun op => op.req == .channel c).or <|
  el.find? fun op => op.req == .inventory

/-- Hand an operation to the module port, and note a granted channel (R106). -/
def Arbiter.grant (a : Arbiter) (op : ModOp) : Arbiter :=
  { waiting := a.waiting.erase op
    lastChan := match op.req with
      | .channel c => c
      | _ => a.lastChan
    port := a.port ++ [op] }

/-- The operation that the module port of a socket completes next (R105). -/
def State.nextOp (s : State) (k : Socket) : Option ModOp := (s.arb k).port.head?

/-- The module completes the first granted operation of a socket; a write lands (R99, R105). The
operation has reached the module by then (notes/assumptions/10.md). -/
def State.complete (s : State) (k : Socket) (op : ModOp) : State :=
  let s' := s.setArb k { s.arb k with port := (s.arb k).port.tail }
  if op.act.isWrite then
    { s' with modules :=
        storeLine s.modules (moduleKey op.fl) (op.act.result (s.contents op.fl)) }
  else s'

/-- What becomes of a requester's operations when its work is abandoned: those waiting are withdrawn,
those granted complete with the given standing (R65). -/
def Arbiter.abandon (a : Arbiter) (r : Requester) (st : Standing) : Arbiter :=
  { a with
    waiting := a.waiting.filter fun op => op.req != r
    port := a.port.map fun op =>
      if op.req = r ∧ op.standing = .live then { op with standing := st } else op }

/-- At a warm restart every operation not granted is withdrawn, and every granted one completes without
its work (R104, R119, R135). The rotation starts over at channel 0 (R106). -/
def Arbiter.restart (a : Arbiter) : Arbiter :=
  { waiting := []
    lastChan := 3
    port := a.port.map fun op =>
      if op.standing = .live then { op with standing := .restarted } else op }

/-! ## Claims (section 5.4) -/

def allOwners : List Owner :=
  [.channel 0, .channel 1, .channel 2, .channel 3, .scrubber]

def Place.claims (fl : FrameLine) : Place → Bool
  | .claimed g _ => g == fl
  | _ => false

def Place.requests (fl : FrameLine) : Place → Bool
  | .requested g => g == fl
  | _ => false

/-- The owner of the claim on a frame line, if it is under one (R95). -/
def State.claimOn (s : State) (fl : FrameLine) : Option Owner :=
  allOwners.find? fun o => (s.place o).claims fl

/-- A write that claim requests on its frame line wait out (R96): the data port's, whatever its
standing, and a scrub write-back that a warm restart has left. -/
def ModOp.delaysClaims (fl : FrameLine) (op : ModOp) : Bool :=
  op.fl == fl && op.act.isWrite &&
    (op.req.isDataPort || (op.req == .scrubber && op.standing == .restarted))

/-- Both conditions of R96 hold for a frame line. -/
def State.lineFree (s : State) (fl : FrameLine) : Bool :=
  (s.claimOn fl).isNone &&
    !((s.arb (socketOf fl.frame)).waiting ++ (s.arb (socketOf fl.frame)).port).any
      (ModOp.delaysClaims fl)

/-- The place leaves REQUESTED: it no longer stands in the order of requests. -/
def State.unorder (s : State) (o : Owner) : State := { s with reqOrder := s.reqOrder.erase o }

/-- The place becomes CLAIMED with no held write (R96), and the owner's read is requested (R56, R111). -/
def State.claimAndRead (s : State) (o : Owner) (fl : FrameLine) : State :=
  let s' := (s.unorder o).setPlace o (.claimed fl [])
  match o with
  | .channel c => s'.request (liveOp (.channel c) fl .read)
  | .scrubber =>
    { s' with scrub := { s'.scrub with stage := .reading } }.request (liveOp .scrubber fl .read)

/-- The place becomes REQUESTED, behind every request made before (R96). -/
def State.askClaim (s : State) (o : Owner) (fl : FrameLine) : State :=
  let s' := s.setPlace o (.requested fl)
  { s' with reqOrder := s'.reqOrder ++ [o] }

/-- Ask for a claim, and test the conditions at once (R96): granted if they hold and no other request
waits on the line. -/
def State.askAndTest (s : State) (o : Owner) (fl : FrameLine) : State :=
  if s.lineFree fl && !allOwners.any (fun p => (s.place p).requests fl) then s.claimAndRead o fl
  else s.askClaim o fl

/-! ## The scrub of a line (sections 6.2, 6.3) -/

/-- A scrub begins at the position as it stands (R111). -/
def State.beginScrub (s : State) : State :=
  { s with scrub := { s.scrub with stage := .claiming } }.askAndTest .scrubber
    ⟨s.scrub.frame, s.scrub.line⟩

/-- The first frame in use after the position's, and whether the search passed from 63 to 0 (R110). -/
def State.searchScrub (s : State) : Option (FrameNo × Bool) :=
  let inUse := fun f => (s.frame f).state.inUse
  match (List.finRange 64).find? (fun f => decide (s.scrub.frame < f) && inUse f) with
  | some f => some (f, false)
  | none =>
    ((List.finRange 64).find? fun f => decide (f < s.scrub.frame) && inUse f).map (·, true)

/-- Choose the line and begin its scrub (R110). -/
def State.chooseScrub (s : State) : State :=
  if (s.frame s.scrub.frame).state.inUse then s.beginScrub
  else match s.searchScrub with
    | some (f, wrapped) =>
      { s with scrub :=
          { s.scrub with
            frame := f
            line := 0
            passCount := if wrapped then s.scrub.passCount + 1 else s.scrub.passCount } }.beginScrub
    | none => { s with scrub := { s.scrub with expiryPending := false } }

/-- The position one line on (R115). -/
def Scrubber.advance (p : Scrubber) : Scrubber :=
  if p.line.val + 1 < 16384 then { p with line := lineNo (p.line.val + 1) }
  else if p.frame.val + 1 < 64 then
    { p with line := 0, frame := Fin.ofNat 64 (p.frame.val + 1) }
  else { p with line := 0, frame := 0, passCount := p.passCount + 1 }

/-- Points 2 to 4 of R115: the stage, the position, and the next scrub if an expiry is pending. -/
def State.finishScrub (s : State) : State :=
  let p := { s.scrub with stage := .none }.advance
  if p.expiryPending then { s with scrub := { p with expiryPending := false } }.chooseScrub
  else { s with scrub := p }

/-- A REQUESTED place is granted (R96). The scrubber looks at its frame again: no longer in use, the
scrub ends at once and no read is made (R111). -/
def State.grantClaim (s : State) (o : Owner) (fl : FrameLine) : State :=
  match o with
  | .channel _ => s.claimAndRead o fl
  | .scrubber =>
    if (s.frame fl.frame).state.inUse then s.claimAndRead o fl
    else ((s.unorder o).setPlace o .empty).finishScrub

/-- Grant one owner's request on a frame line if it stands and the line is free (R96). -/
def State.testOne (s : State) (fl : FrameLine) (o : Owner) : State :=
  if (s.place o).requests fl && s.lineFree fl then s.grantClaim o fl else s

/-- Test the requests that wait on a frame line, the earliest first (R96). -/
def State.testRequests (s : State) (fl : FrameLine) : State :=
  s.reqOrder.foldl (fun t o => t.testOne fl o) s

/-! ## Checks and steering (sections 5.2, 5.3) -/

def TxnOp.isWrite : TxnOp → Bool
  | .writeWord _ _ => true
  | .writeLine _ => true
  | _ => false

def TxnOp.isLineWrite : TxnOp → Bool
  | .writeLine _ => true
  | _ => false

/-- The module operation a transaction asks for; a word read reads the whole line (R91, R99). -/
def TxnOp.act : TxnOp → OpAct
  | .readWord _ => .read
  | .readLine => .read
  | .writeWord w d => .writeWord w d
  | .writeLine d => .writeLine d

/-- Return an answer to an initiator and end its transaction (R103). -/
def State.answer (s : State) (i : Initiator) (r : PortResp) (d : PortData) : State :=
  s.setPort i { txn := .idle, answer := some { resp := r, data := d } }

/-- Checks 1 to 4 of R89, on a decoded transaction. -/
def State.refusal (s : State) (i : Initiator) (t : Txn) : Option PortResp :=
  let r := s.slice t.slice
  if r.loc = .unmapped then some .unmapped
  else if r.domain.getLsbD i.val = false then some .denied
  else if t.op.isWrite && r.protect then some .protected_
  else if s.poison.contains (t.slice, t.line) && !t.op.isLineWrite then some .poisoned
  else none

/-- A write is held on a claim, at the tail of its list (R97). -/
def State.hold (s : State) (i : Initiator) (t : Txn) (o : Owner) : State :=
  let s' := s.setPort i { s.port i with txn := .held t o }
  match s'.place o with
  | .claimed fl held => s'.setPlace o (.claimed fl (held ++ [i]))
  | _ => s'

/-- A transaction is given to its frames: source first, then the target of a mirror write (R91, R94,
R105). -/
def State.issue (s : State) (i : Initiator) (t : Txn) (f : FrameNo) (target : Option FrameNo) :
    State :=
  let s1 := s.setPort i
    { s.port i with txn := .steered t f target (if target.isSome then 2 else 1) }
  let s2 := s1.request (liveOp (.dataPort i) ⟨f, t.line⟩ t.op.act)
  match target with
  | some g => s2.request (liveOp (.dataPort i) ⟨g, t.line⟩ t.op.act)
  | none => s2

/-- The frame a write to line `l` is mirrored to: the target, below the channel's cursor (R93). -/
def State.mirrorTarget (s : State) (c : ChanNo) (l : LineNo) : Option FrameNo :=
  match (s.chan c).state.migration with
  | some m => if l.val < m.cursor then some m.target else none
  | none => none

/-- Steer a write: held if its source line is under a claim, else given to its frames (R92, R93). -/
def State.steerWrite (s : State) (i : Initiator) (t : Txn) (f : FrameNo)
    (target : Option FrameNo) : State :=
  match s.claimOn ⟨f, t.line⟩ with
  | some o => s.hold i t o
  | none => s.issue i t f target

/-- Steer a transaction that has passed the checks (R91 to R93). -/
def State.steer (s : State) (i : Initiator) (t : Txn) : State :=
  match (s.slice t.slice).loc with
  | .unmapped => s
  | .mapped f => if t.op.isWrite then s.steerWrite i t f none else s.issue i t f none
  | .migrating f c =>
    if t.op.isWrite then s.steerWrite i t f (s.mirrorTarget c t.line) else s.issue i t f none

/-- Check and steer, in one event (R89, R90). -/
def State.checkAndSteer (s : State) (i : Initiator) (t : Txn) : State :=
  match s.refusal i t with
  | some r => s.answer i r .none
  | none => s.steer i t

/-! ## Release of a claim (R98) -/

/-- A held write is checked and steered again (R98). -/
def State.retranslate (s : State) (i : Initiator) : State :=
  match (s.port i).txn with
  | .held t _ => s.checkAndSteer i t
  | _ => s

/-- An owner gives up its place: a claim's held writes are re-translated, oldest first, and then the
requests on its line are tested (R98); a request is withdrawn (R65). -/
def State.releasePlace (s : State) (o : Owner) : State :=
  match s.place o with
  | .empty => s
  | .requested _ => (s.unorder o).setPlace o .empty
  | .claimed fl held =>
    (held.foldl (fun t i => t.retranslate i) (s.setPlace o .empty)).testRequests fl

/-- The scrub of a line ends (R115). -/
def State.endScrub (s : State) : State := (s.releasePlace .scrubber).finishScrub

/-! ## Channels (chapter 3) -/

/-- A RUNNING channel asks for a claim on the line at its cursor (R55). -/
def State.beginCopy (s : State) (c : ChanNo) : State :=
  match (s.chan c).state with
  | .running m f => s.askAndTest (.channel c) ⟨f, lineNo m.cursor⟩
  | _ => s

/-- Channels ARMED after `c` and still waiting on it, in ascending number (R61, R66). -/
def State.waitersOn (s : State) (c : ChanNo) : List ChanNo :=
  (List.finRange 4).filter fun d =>
    match (s.chan d).state with
    | .armed m => m.after == some c && !s.broken.contains d
    | _ => false

/-- A channel becomes RUNNING on the source its slice names (R54). -/
def State.startChannel (s : State) (c : ChanNo) : State :=
  match (s.chan c).state with
  | .armed m =>
    match (s.slice m.slice).loc.source with
    | some f => s.setChan c { s.chan c with state := .running m f }
    | none => s
  | _ => s

/-- A migrating slice is MAPPED on its source again (R63). -/
def State.revertSlice (s : State) (i : SliceNo) : State :=
  match (s.slice i).loc with
  | .migrating f _ => s.setLoc i (.mapped f)
  | _ => s

/-- The target of an aborted migration goes back by its origin, or is RETIRED (R64). -/
def State.returnTarget (s : State) (m : Migration) (cause : LastOutcome) : State :=
  if cause = .targetRetired then s.retireFrame m.target
  else match m.origin with
    | .free => s.setFrameState m.target .free
    | .spare => s.joinSpare m.target

/-- The changes of R63 and R64 to the tables, in the abort's own event: slice, target, channel, the
successors that stop waiting and are to abort in their turn (R66; notes/assumptions/6.md), MIG_ABORTED
unless the cause is RESET, and the generation. -/
def State.abortRecords (s : State) (c : ChanNo) (cause : LastOutcome) : State :=
  match (s.chan c).state.migration with
  | none => s
  | some m =>
    let followers := s.waitersOn c
    let s1 := (s.revertSlice m.slice).returnTarget m cause
    let s2 := s1.setChan c { state := .idle, last := cause }
    let s3 := { s2 with broken := s2.broken.erase c ++ followers }
    (s3.raiseIf (cause != .reset) .migAborted).bump

/-- A line copy in progress is abandoned (R65). -/
def State.abandonCopy (s : State) (c : ChanNo) : State :=
  { s with arbs := s.arbs.map fun a => Arbiter.abandon a (.channel c) .aborted }.releasePlace (.channel c)

/-- An abort of an ARMED or RUNNING channel with any cause but RESET (R63 to R66). -/
def State.abortChannel (s : State) (c : ChanNo) (cause : LastOutcome) : State :=
  (s.abortRecords c cause).abandonCopy c

/-- A frame is taken as a migration target (R52, R72): TARGET, out of the spare queue if it was SPARE. -/
def State.takeTarget (s : State) (f : FrameNo) : State :=
  (if (s.frame f).state = .spare then s.removeSpare f else s).setFrameState f .target

/-- Origin of a target, from its state when taken (R51). -/
def State.originOf (s : State) (f : FrameNo) : Origin :=
  if (s.frame f).state = .spare then .spare else .free

/-- A migration is set up on a channel: target, slice and channel records, and the generation (R52,
R72). With start NOW the channel starts at once (R54). -/
def State.setUpMigration (s : State) (i : SliceNo) (source target : FrameNo) (c : ChanNo)
    (after : Option ChanNo) (by_ : InitiatedBy) : State :=
  let m : Migration :=
    { slice := i, target := target, origin := s.originOf target, after := after, by_ := by_
      cursor := 0, poisoned := 0 }
  let s1 := (s.takeTarget target).setLoc i (.migrating source c)
  let st := if after.isSome then ChanState.armed m else ChanState.running m source
  (s1.setChan c { s1.chan c with state := st }).bump

/-! ## Scrub timer (R108) -/

/-- The scrubber starts, its timer from zero, if the interval is not 0. -/
def State.startScrubber (s : State) : State :=
  { s with scrub :=
      { s.scrub with timer := if s.policy.scrubInterval = 0 then none else some 0 } }

/-- The scrubber is STOPPED, which turns expiry pending off. -/
def State.stopScrubber (s : State) : State :=
  { s with scrub := { s.scrub with timer := none, expiryPending := false } }

/-! ## Taking a command (section 8.3) -/

/-- What a command answers: its status, its result words, and the state it leaves (R142, R143). -/
structure CmdOut where
  status : Status
  rsp1 : Word32
  rsp2 : Word32
  rsp3 : Word32
  state : State

/-- A refused command changes nothing but its response, whose result words are zero (R143, R148). -/
def State.refuse (s : State) (st : Status) : CmdOut := ⟨st, 0, 0, 0, s⟩

/-- A completed command; the generation stands in the low half of RSP3 (R181). -/
def State.done (s : State) (r1 r2 : Word32) : CmdOut :=
  ⟨.ok, r1, r2, word2 s.generation.toNat 0, s⟩

/-- The response is appended at the tail of the response queue (R143). -/
def CmdOut.respond (o : CmdOut) (w : CmdWord) : State :=
  { o.state with rspQ := o.state.rspQ ++
      [{ tag := cmdTag w, code := cmdCode w, status := o.status
         rsp1 := o.rsp1, rsp2 := o.rsp2, rsp3 := o.rsp3 }] }

/-- The command unit takes the head of the command queue if the code is one this row is for, and the
response queue has room (R141, R142). Otherwise the taking does not occur and nothing changes
(notes/assumptions/3.md). -/
def State.takeCommand (s : State) (forCode : Byte → Bool) (run : CmdWord → State → CmdOut) : State :=
  s.whenOn <|
    match s.cmdQ with
    | [] => s
    | w :: rest =>
      if forCode (cmdCode w) && decide (s.rspQ.length < Config.responseCapacity) then
        (run w { s with cmdQ := rest }).respond w
      else s

/-- The phase is one in which the command is taken (R121, R147). -/
def State.inPhase (s : State) (ps : List Phase) : Bool := ps.contains s.phase

/-- The check of phase, then of the map lock for the commands it stops, then the rest (R147). -/
def State.guarded (s : State) (phases : List Phase) (lockable : Bool) (run : CmdOut) : CmdOut :=
  if s.inPhase phases then
    if lockable && s.locked then s.refuse .locked else run
  else s.refuse .wrongPhase

end Sys2Proof.Machine
end

