-- ==== Sys2Proof/Machine/Codes.lean ====
section
/-! DEFINITION. The numeric codes of R180, and the record fields as result words carry them (R181). -/

namespace Sys2Proof.Machine

def SliceLoc.code : SliceLoc → Nat
  | .unmapped => 0
  | .mapped _ => 1
  | .migrating _ _ => 2

def FrameState.code : FrameState → Nat
  | .absent => 0
  | .untested => 1
  | .free => 2
  | .spare => 3
  | .bound _ => 4
  | .target => 5
  | .retired => 6

def Cause.code : Cause → Nat
  | .inventory => 1
  | .threshold => 2
  | .uncorrectable => 3
  | .software => 4
  | .imported => 5

/-- Cause byte of a frame record: 0 is not suspect. -/
def causeCode (c : Option Cause) : Nat := (c.map Cause.code).getD 0

def ChanState.code : ChanState → Nat
  | .idle => 0
  | .armed _ => 1
  | .running _ _ => 2

def LastOutcome.code : LastOutcome → Nat
  | .none => 0
  | .committed => 1
  | .cancelled => 2
  | .chainBroken => 3
  | .targetRetired => 4
  | .poisonFull => 5
  | .reset => 6

def Phase.code : Phase → Nat
  | .inventory => 0
  | .staged => 1
  | .importing => 2
  | .active => 3

def Origin.code : Origin → Nat
  | .spare => 0
  | .free => 1

def InitiatedBy.code : InitiatedBy → Nat
  | .command => 0
  | .auto => 1

def Status.code : Status → Nat
  | .ok => 0
  | .badCommand => 1
  | .badArg => 2
  | .wrongPhase => 3
  | .wrongState => 4
  | .busy => 5
  | .locked => 6
  | .noFrame => 7
  | .noChannel => 8
  | .sequence => 9
  | .checkFailed => 10
  | .mismatch => 11
  | .stale => 12

def FrameState.slice : FrameState → Option SliceNo
  | .bound i => some i
  | _ => none

/-- Position in a queue, or none. -/
def posIn (q : List FrameNo) (f : FrameNo) : Option Nat :=
  if q.contains f then some (q.idxOf f) else none

/-- The retire-queue position byte: 0xFE for a suspect BOUND frame waiting outside (R181). -/
def State.retirePos (s : State) (f : FrameNo) : Nat :=
  if s.waitsUnqueued f then 0xFE else orNone (posIn s.retireQ f)

/-- Frames not ABSENT (R159, R160). -/
def State.presentCount (s : State) : Nat :=
  (List.finRange 64).countP fun f => (s.frame f).state != .absent

/-- The policy record as SET_POLICY and QUERY_PART page 1 report it (R181). -/
def Policy.word1 (p : Policy) : Word32 :=
  word4 p.autoRetire.toNat p.threshold p.spareLow p.defaultReserve

def Policy.word2 (p : Policy) : Word32 := Sys2Proof.Machine.word2 p.scrubInterval 0

end Sys2Proof.Machine
end

