-- ==== Sys2Proof/Machine/Aperture.lean ====
section
/-! DEFINITION. The control aperture (chapter 11): writes to its registers, each an event, and what a
read of a register returns. -/

namespace Sys2Proof.Machine

/-- The accesses the aperture serves: 32 bits, aligned, from initiator 0 (R177). Every other is
answered DENIED, one wider than 32 bits too (DESIGN CHOICE, notes/assumptions/28.md). -/
def servedAccess (a : BusAccess) : Bool := a.initiator == 0 && a.wide && a.aligned

/-- A write access: answered OKAY with the register's effect, or DENIED with none; not taken at all
while power-good is low (R122, R177). -/
def State.apertureWrite (s : State) (a : BusAccess) (effect : State → State) : State :=
  s.whenOn <|
    if servedAccess a then { effect s with apReply := some .okay }
    else { s with apReply := some .denied }

/-! ## SUBMIT (R139) -/

/-- The staged word joins the command queue, or is dropped with CMD_OVERRUN. -/
def State.submit (s : State) : State :=
  if s.cmdQ.length < Config.commandCapacity then { s with cmdQ := s.cmdQ ++ [s.staging] }
  else s.raise .cmdOverrun

def execSubmit (a : BusAccess) (_ : Word32) (s : State) : Host.Outcome State Fault Refusal :=
  .next (s.apertureWrite a State.submit)

/-! ## RSP_POP (R145) -/

def execRspPop (a : BusAccess) (_ : Word32) (s : State) : Host.Outcome State Fault Refusal :=
  .next (s.apertureWrite a fun t => { t with rspQ := t.rspQ.tail })

/-! ## EVENTS, EVENT_ENABLE and FAULT_ENABLE (R171, R173, R174, R178) -/

def execEventsWrite (a : BusAccess) (v : Word32) (s : State) : Host.Outcome State Fault Refusal :=
  .next (s.apertureWrite a fun t => t.clearFlags (v.truncate 13))

def execEventEnableWrite (a : BusAccess) (v : Word32) (s : State) :
    Host.Outcome State Fault Refusal :=
  .next (s.apertureWrite a fun t => { t with eventEnable := v.truncate 13 })

def execFaultEnableWrite (a : BusAccess) (v : Word32) (s : State) :
    Host.Outcome State Fault Refusal :=
  .next (s.apertureWrite a fun t => { t with faultEnable := v.getLsbD 0 })

/-! ## WARM_RESTART (R133, R178) -/

/-- A write of the restart code is one request; any other value has no effect. -/
def execWarmRestartWrite (a : BusAccess) (v : Word32) (s : State) :
    Host.Outcome State Fault Refusal :=
  .next (s.apertureWrite a fun t =>
    if v = Config.restartCode then { t with warmReq := t.warmReq + 1 } else t)

/-! ## The other registers (R138, R177) -/

/-- Replace one staging register (R138). -/
def putStaging (w : CmdWord) (n : Fin 4) (v : Word32) : CmdWord :=
  match n with
  | 0 => { w with cmd0 := v }
  | 1 => { w with cmd1 := v }
  | 2 => { w with cmd2 := v }
  | 3 => { w with cmd3 := v }

def getStaging (w : CmdWord) (n : Fin 4) : Word32 :=
  match n with
  | 0 => w.cmd0
  | 1 => w.cmd1
  | 2 => w.cmd2
  | 3 => w.cmd3

/-- CMD0 to CMD3 take the value; a read-only register does not (R177). -/
def State.writePlain (s : State) (r : PlainReg) (v : Word32) : State :=
  match r with
  | .cmd n => { s with staging := putStaging s.staging n v }
  | _ => s

def execRegisterWrite (a : BusAccess) (r : PlainReg) (v : Word32) (s : State) :
    Host.Outcome State Fault Refusal :=
  .next (s.apertureWrite a fun t => t.writePlain r v)

/-! ## Reads (R171, R176 to R178) -/

/-- The sixteen registers of the aperture (R176). -/
inductive ApReg where
  | plain (r : PlainReg)
  | submit
  | rspPop
  | events
  | eventEnable
  | faultEnable
  | warmRestart
  deriving DecidableEq, Repr

/-- The register at a byte offset (R176). -/
def apRegAt : Nat → Option ApReg
  | 0x00 => some (.plain .ident)
  | 0x04 => some (.plain (.cmd 0))
  | 0x08 => some (.plain (.cmd 1))
  | 0x0C => some (.plain (.cmd 2))
  | 0x10 => some (.plain (.cmd 3))
  | 0x14 => some .submit
  | 0x18 => some (.plain .qstat)
  | 0x1C => some (.plain (.rsp 0))
  | 0x20 => some (.plain (.rsp 1))
  | 0x24 => some (.plain (.rsp 2))
  | 0x28 => some (.plain (.rsp 3))
  | 0x2C => some .rspPop
  | 0x30 => some .events
  | 0x34 => some .eventEnable
  | 0x38 => some .faultEnable
  | 0x3C => some .warmRestart
  | _ => none

/-- QSTAT: free command entries, response entries, CMD_OVERRUN (R140, R178). -/
def State.qstat (s : State) : Word32 :=
  word4 (Config.commandCapacity - s.cmdQ.length) s.rspQ.length (s.flagSet .cmdOverrun).toNat 0

/-- RSP0 to RSP3: the head entry, or zero with the queue empty (R144, R178). -/
def State.rspWord (s : State) (n : Fin 4) : Word32 :=
  match s.rspQ, n with
  | [], _ => 0
  | r :: _, 0 => word4 r.tag.toNat r.code.toNat r.status.code 0x80
  | r :: _, 1 => r.rsp1
  | r :: _, 2 => r.rsp2
  | r :: _, 3 => r.rsp3

/-- What a served read of a register returns; the registers marked write only return zero (R177). -/
def State.readReg (s : State) : ApReg → Word32
  | .plain .ident => Config.identValue
  | .plain (.cmd n) => getStaging s.staging n
  | .plain .qstat => s.qstat
  | .plain (.rsp n) => s.rspWord n
  | .events => s.events.zeroExtend 32
  | .eventEnable => s.eventEnable.zeroExtend 32
  | .faultEnable => BitVec.ofNat 32 s.faultEnable.toNat
  | .submit => 0
  | .rspPop => 0
  | .warmRestart => 0

/-- A read access: its answer and, if served, the value. None while power-good is low. A read changes no
state, so it is no command (notes/assumptions/8.md). -/
def State.apertureRead (s : State) (a : BusAccess) (r : ApReg) : Option (ApReply × Option Word32) :=
  if s.powered then
    if servedAccess a then some (.okay, some (s.readReg r)) else some (.denied, none)
  else none

end Sys2Proof.Machine
end

