-- ==== Sys2Proof/Machine/BringUp.lean ====
section
/-! DEFINITION. Power, the inventory walk and the warm restart (chapter 7). -/

namespace Sys2Proof.Machine

/-! ## POWER_ON_RESET and POWER_GOOD_FALL (R122) -/

/-- The rising edge of power-good, with the presence codes it samples. Sent while power-good is high it
stands for a fall and a rise (DESIGN CHOICE, notes/assumptions/17.md). -/
def execPowerOnReset (codes : PresenceCodes) (s : State) : Host.Outcome State Fault Refusal :=
  .next (State.powerOn codes s.pending s.warmPin s.modules)

/-- The part without power holds no state; the model writes that as the power-on values of a board with
no frame, with no walk, timer or flag (notes/assumptions/2.md). -/
def State.powerOff (s : State) : State :=
  let z := State.powerOn (Vector.replicate 4 0) s.pending s.warmPin s.modules
  { z with
    powered := false
    phase := .inventory
    flags := 0
    scrub := { z.scrub with timer := none } }

def execPowerGoodFall (s : State) : Host.Outcome State Fault Refusal := .next s.powerOff

/-! ## Requests for a warm restart (R133) -/

/-- The input's level; a transition to active is one request, unless power-good is low (R133, R183). The
input filter is outside the model (notes/assumptions/11.md). -/
def execWarmRestartInput (active : Bool) (s : State) : Host.Outcome State Fault Refusal :=
  .next
    { s with
      warmPin := active
      warmReq := if s.powered && active && !s.warmPin then s.warmReq + 1 else s.warmReq }

/-! ## WARM_RESTART (R133 to R136) -/

/-- Held and steered transactions are answered ABORTED (R104). -/
def Port.restart (p : Port) : Port :=
  if p.txn = .idle then p
  else { txn := .idle, answer := some { resp := .aborted, data := .none } }

/-- Every ARMED or RUNNING channel aborts RESET, in ascending number, one advance of the generation
each (R69). -/
def State.resetChannels (s : State) : State :=
  { (List.finRange 4).foldl (fun t c => t.abortRecords c .reset) s with broken := [] }

/-- The scrub in flight ends, the position returns to (0, 0), and the run state follows R108 (R119). -/
def State.restartScrubber (s : State) : State :=
  let p := { s.scrub with frame := 0, line := 0, stage := .none, expiryPending := false }
  let s' := { s with scrub := { p with timer := none } }
  if s.phase = .staged ∨ s.phase = .active then s'.startScrubber else s'

/-- The frame in test is tested again from its first write, and a walk that is DONE has no operation
outstanding (R123, R135). -/
def State.restartWalk (s : State) : State :=
  let w := { s.walk with pass := .write, line := 0, failed := false }
  match w.running, w.frame with
  | true, some f => { s with walk := { w with outstanding := some .write } }.request (firstWrite f)
  | _, _ => { s with walk := { w with outstanding := none } }

/-- The warm-restart event in every block (R134). -/
def State.restart (s : State) : State :=
  let s1 :=
    { s with
      warmReq := s.warmReq - 1
      ports := s.ports.map Port.restart
      places := Vector.replicate 5 .empty
      reqOrder := []
      arbs := s.arbs.map Arbiter.restart }.resetChannels
  let s2 :=
    { s1 with
      phase := if s1.phase = Phase.importing then Phase.staged else s1.phase
      cmdQ := []
      rspQ := []
      exportS := none
      importS := none
      flags := Flag.warmStart.mask }
  s2.restartScrubber.restartWalk

def execWarmRestart (s : State) : Host.Outcome State Fault Refusal :=
  .next <| s.whenOn <| if 0 < s.warmReq then s.restart else s

/-! ## INVENTORY_WRITE_COMPLETE (R124) -/

/-- The walk requests an operation on a line of the frame in test. -/
def State.walkRequest (s : State) (f : FrameNo) (p : TestPass) (l : LineNo) : State :=
  let fl : FrameLine := ⟨f, l⟩
  let w := { s.walk with pass := p, line := l }
  match p with
  | .write =>
    { s with walk := { w with outstanding := some .write } }.request
      (liveOp .inventory fl (.writeLine (patternLine fl)))
  | .read =>
    { s with walk := { w with outstanding := some .read } }.request (liveOp .inventory fl .read)

/-- The next write, or the first read after the write of line 16,383. -/
def State.walkWritten (s : State) (f : FrameNo) : State :=
  if s.walk.line.val + 1 < Config.linesPerFrame then
    s.walkRequest f .write (lineNo (s.walk.line.val + 1))
  else s.walkRequest f .read 0

def execInventoryWriteComplete (k : Socket) (s : State) : Host.Outcome State Fault Refusal :=
  .next <| s.whenOn <|
    match s.nextOp k with
    | some op =>
      match op.req, op.act.isWrite, op.standing, s.walk.frame with
      | .inventory, true, .live, some f => (s.complete k op).walkWritten f
      | _, _, _, _ => s
    | none => s

/-! ## INVENTORY_READ_OUTCOME (R125, R127, R128) -/

/-- The end of the walk (R128). Pass, line and failed keep their values (DESIGN CHOICE,
notes/assumptions/16.md). -/
def State.endWalk (s : State) : State :=
  { s with
    walk := { s.walk with running := false, frame := none, outstanding := none }
    phase := .staged }.startScrubber.raise .inventoryDone

/-- A frame test completes (R127): FREE, or RETIRED with cause INVENTORY, and the generation advances. -/
def State.testVerdict (s : State) (f : FrameNo) : State :=
  (if s.walk.failed then (s.setSuspect f .inventory).retireFrame f
   else s.setFrameState f .free).bump

/-- The next frame to test: the lowest UNTESTED one above (R127). -/
def State.nextUntested (s : State) (f : FrameNo) : Option FrameNo :=
  (List.finRange 64).find? fun g => decide (f < g) && (s.frame g).state == .untested

def State.testComplete (s : State) (f : FrameNo) : State :=
  let s' := s.testVerdict f
  match s'.nextUntested f with
  | some g =>
    { s' with walk := { s'.walk with frame := some g, failed := false } }.walkRequest g .write 0
  | none => s'.endWalk

/-- An outcome of the read pass: counted without marking, and the next read or the completion (R125). -/
def State.walkRead (s : State) (f : FrameNo) (o : ReadOutcome) : State :=
  let s1 := s.countOnly f o
  let s2 := if o = .uncorrectable then { s1 with walk := { s1.walk with failed := true } } else s1
  if s2.walk.line.val + 1 < Config.linesPerFrame then
    s2.walkRequest f .read (lineNo (s2.walk.line.val + 1))
  else s2.testComplete f

def execInventoryReadOutcome (k : Socket) (o : ReadOutcome) (s : State) :
    Host.Outcome State Fault Refusal :=
  .next <| s.whenOn <|
    match s.nextOp k with
    | some op =>
      match op.req, op.act, op.standing, s.walk.frame with
      | .inventory, .read, .live, some f => (s.complete k op).walkRead f o
      | _, _, _, _ => s
    | none => s

end Sys2Proof.Machine
end

