-- ==== Sys2Proof/Machine/ChannelCommands.lean ====
section
/-! DEFINITION. The commands of the migration engine (sections 3.2, 3.7): MIGRATE, CANCEL and
QUERY_CHANNEL. -/

namespace Sys2Proof.Machine

/-! ## MIGRATE (R50 to R52) -/

/-- Check 4 of R50: the channel a MIGRATE takes, or its refusal. -/
def State.chooseChannel (s : State) : Option ChanNo → Except Status ChanNo
  | some c => if (s.chan c).state = .idle then .ok c else .error .busy
  | none =>
    match s.idleChan with
    | some c => .ok c
    | none => .error .noChannel

/-- Check 5 of R50: the target a MIGRATE takes, or its refusal. -/
def State.chooseTarget (s : State) : Option FrameNo → Except Status FrameNo
  | some f =>
    if (s.frame f).state = .free ∨ (s.frame f).state = .spare then .ok f else .error .wrongState
  | none =>
    match s.spareQ.head? with
    | some f => .ok f
    | none => .error .noFrame

/-- Check 6 of R50: with AFTER j, channel j is not IDLE and is not the chosen one. -/
def State.startRefused (s : State) (c : ChanNo) : Option ChanNo → Bool
  | some j => (s.chan j).state == .idle || j == c
  | none => false

/-- Checks 3 to 6 of R50 and the effect of R52, with arguments decoded. -/
def State.migrate (s : State) (i : SliceNo) (target : Option FrameNo) (chan : Option ChanNo)
    (after : Option ChanNo) : CmdOut :=
  match (s.slice i).loc with
  | .migrating _ _ => s.refuse .busy
  | .unmapped => s.refuse .wrongState
  | .mapped source =>
    match s.chooseChannel chan with
    | .error st => s.refuse st
    | .ok c =>
      match s.chooseTarget target with
      | .error st => s.refuse st
      | .ok f =>
        if s.startRefused c after then s.refuse .wrongState
        else
          let s' := s.setUpMigration i source f c after .command
          s'.done (word4 c.val f.val (s.originOf f).code (s'.chan c).state.code) 0

def migrateCommand (w : CmdWord) (s : State) : CmdOut :=
  match argSlice (byteOf w.cmd1 0), argFrameOrSpare (byteOf w.cmd1 1),
      argChanOrAny (byteOf w.cmd1 2), argStart (byteOf w.cmd1 3) with
  | some i, some target, some chan, some after =>
    s.guarded [.active] false (s.migrate i target chan after)
  | _, _, _, _ => s.refuse .badArg

def execMigrate (s : State) : Host.Outcome State Fault Refusal :=
  .next (s.takeCommand (· == 0x30) migrateCommand)

/-! ## CANCEL (R70) -/

/-- Add the channels ARMED behind those of a list and still waiting on them. -/
def State.behindStep (s : State) (cs : List ChanNo) : List ChanNo :=
  (List.finRange 4).filter fun d => cs.contains d || cs.any fun c => (s.waitersOn c).contains d

/-- Number of channels ARMED behind a channel, directly or through one another (R70). -/
def State.armedBehind (s : State) (c : ChanNo) : Nat :=
  (s.behindStep (s.behindStep (s.behindStep [c]))).countP fun d => d != c

def cancelCommand (w : CmdWord) (s : State) : CmdOut :=
  match argChan (byteOf w.cmd1 2) with
  | some c =>
    s.guarded [.active] false <|
      match (s.chan c).state.migration with
      | none => s.refuse .wrongState
      | some m =>
        let s' := s.abortChannel c .cancelled
        ⟨.ok, word4 c.val m.slice.val m.target.val (s'.frame m.target).state.code,
          word2 m.cursor m.poisoned, word2 s'.generation.toNat (s.armedBehind c), s'⟩
  | none => s.refuse .badArg

def execCancel (s : State) : Host.Outcome State Fault Refusal :=
  .next (s.takeCommand (· == 0x31) cancelCommand)

/-! ## QUERY_CHANNEL (R71) -/

/-- The flags byte of QUERY_CHANNEL (R181). That j of AFTER j reads 0 for a channel that starts NOW is the
model's choice (DESIGN CHOICE, notes/assumptions/29.md). -/
def State.chanFlags (s : State) (c : ChanNo) : Nat :=
  match (s.chan c).state.migration with
  | none => 0
  | some m =>
    m.origin.code + 2 * m.by_.code + 4 * (s.claimedLine c).isSome.toNat +
      match m.after with
      | none => 0
      | some j => 8 + 16 * j.val

def ChanState.source : ChanState → Option FrameNo
  | .running _ f => some f
  | _ => none

def queryChannelCommand (w : CmdWord) (s : State) : CmdOut :=
  match argChan (byteOf w.cmd1 2) with
  | some c =>
    let r := s.chan c
    let m := r.state.migration
    ⟨.ok,
      word4 r.state.code r.last.code (orNone (m.map (·.slice.val))) (orNone (m.map (·.target.val))),
      word2 ((m.map (·.cursor)).getD 0) ((m.map (·.poisoned)).getD 0),
      word2 s.generation.toNat
        (orNone (r.state.source.map Fin.val) + 256 * s.chanFlags c),
      s⟩
  | none => s.refuse .badArg

def execQueryChannel (s : State) : Host.Outcome State Fault Refusal :=
  .next (s.takeCommand (· == 0x32) queryChannelCommand)

end Sys2Proof.Machine
end

