-- ==== Sys2Proof/Machine/DataPort.lean ====
section
/-! DEFINITION. The data port and module access (chapter 5): the taking of a transaction, the
completions of its module operations, the completion of abandoned operations, the arbiters' grants
and the grant of a claim. -/

namespace Sys2Proof.Machine

/-! ## DATA_PORT_TRANSACTION (R87 to R98) -/

/-- Kind, size, word index and data after address decode; none for a size the port does not carry
(R87). -/
def decodeAccess (addr : Nat) : PortAccess → Option TxnOp
  | .readWord => some (.readWord (addrWord addr))
  | .readLine => some .readLine
  | .writeWord d => some (.writeWord (addrWord addr) d)
  | .writeLine d => some (.writeLine d)
  | .otherSize _ => none

/-- A transaction is taken from an initiator that has none outstanding; another stays outside, to be
presented again (R87, R89; notes/assumptions/13.md). -/
def State.takeTransaction (s : State) (i : Initiator) (access : PortAccess) (addr : Nat) : State :=
  let s' := s.setPort i { txn := .idle, answer := none }
  match decodeAccess addr access with
  | none => s'.answer i .denied .none
  | some op =>
    match addrSlice addr with
    | none => s'.answer i .unmapped .none
    | some sl => s'.checkAndSteer i { op := op, slice := sl, line := addrLine addr }

def execDataPortTransaction (i : Initiator) (access : PortAccess) (addr : Nat) (s : State) :
    Host.Outcome State Fault Refusal :=
  .next <| s.whenOn <|
    if (s.port i).txn = .idle then s.takeTransaction i access addr else s

/-! ## DATA_PORT_READ_OUTCOME (R78, R100, R101) -/

/-- The data of an OKAY read: 8 bytes at the word index, or the line (R91, R100). -/
def TxnOp.readData (op : TxnOp) (d : Line) : PortData :=
  match op with
  | .readWord w => .word d[w]
  | _ => .line d

/-- What an uncorrectable outcome does beyond the count and marking: the entry is asked for unless the
slice is UNMAPPED by now, and UNCORRECTABLE is set (R78, R101). -/
def State.readLost (s : State) (t : Txn) : State :=
  (if (s.slice t.slice).loc = .unmapped then s else s.addPoison t.slice t.line).raise .uncorrectable

/-- A data-port read's outcome arrives for the frame it was steered to (R100, R101). -/
def State.readOutcome (s : State) (k : Socket) (op : ModOp) (i : Initiator) (t : Txn)
    (o : ReadOutcome) : State :=
  let data := s.contents op.fl
  let s' := (s.complete k op).takeOutcome op.fl.frame o
  match o with
  | .uncorrectable => (s'.readLost t).answer i .uncorrectable .none
  | _ => s'.answer i .okay (t.op.readData data)

def execDataPortReadOutcome (k : Socket) (o : ReadOutcome) (s : State) :
    Host.Outcome State Fault Refusal :=
  .next <| s.whenOn <|
    match s.nextOp k with
    | some op =>
      match op.req, op.act, op.standing with
      | .dataPort i, .read, .live =>
        match (s.port i).txn with
        | .steered t _ _ _ => s.readOutcome k op i t o
        | _ => s
      | _, _, _ => s
    | none => s

/-! ## DATA_PORT_WRITE_COMPLETE (R82, R94, R102) -/

/-- The last write of a transaction has completed: a line write removes its poison entry, and the
write is answered OKAY (R82, R94). -/
def State.writeDone (s : State) (i : Initiator) (t : Txn) : State :=
  (if t.op.isLineWrite then s.dropPoison t.slice t.line else s).answer i .okay .none

/-- One of a transaction's writes completes; the requests on its frame line are then tested (R96). -/
def State.writeComplete (s : State) (k : Socket) (op : ModOp) (i : Initiator) (t : Txn)
    (f : FrameNo) (g : Option FrameNo) (n : Nat) : State :=
  let s' := s.complete k op
  (if n ≤ 1 then s'.writeDone i t
   else s'.setPort i { s'.port i with txn := .steered t f g (n - 1) }).testRequests op.fl

def execDataPortWriteComplete (k : Socket) (s : State) : Host.Outcome State Fault Refusal :=
  .next <| s.whenOn <|
    match s.nextOp k with
    | some op =>
      match op.req, op.act.isWrite, op.standing with
      | .dataPort i, true, .live =>
        match (s.port i).txn with
        | .steered t f g n => s.writeComplete k op i t f g n
        | _ => s
      | _, _, _ => s
    | none => s

/-! ## ABANDONED_OPERATION_COMPLETE (R46, R65, R104, R119, R135) -/

/-- An abandoned operation completes. A write lands. A read abandoned by an abort is counted (R65); one
abandoned by a warm restart is not (R46; DEDUCED for a read abandoned by both,
notes/assumptions/7.md). Requests on its line are tested (R96). -/
def State.abandonedComplete (s : State) (k : Socket) (op : ModOp) (o : ReadOutcome) : State :=
  let s1 := s.complete k op
  let s2 :=
    if op.act = .read ∧ op.standing = .aborted then s1.takeOutcome op.fl.frame o else s1
  s2.testRequests op.fl

def execAbandonedOperationComplete (k : Socket) (o : ReadOutcome) (s : State) :
    Host.Outcome State Fault Refusal :=
  .next <| s.whenOn <|
    match s.nextOp k with
    | some op => if op.standing = .live then s else s.abandonedComplete k op o
    | none => s

/-! ## ARBITER_GRANT (R105, R106) -/

def execArbiterGrant (k : Socket) (s : State) : Host.Outcome State Fault Refusal :=
  .next <| s.whenOn <|
    match (s.arb k).choose with
    | some op => s.setArb k ((s.arb k).grant op)
    | none => s

/-! ## CLAIM_GRANT (R96) -/

/-- The request of an owner that is the earliest on its frame line. -/
def State.firstRequest (s : State) (fl : FrameLine) : Option Owner :=
  s.reqOrder.find? fun o => (s.place o).requests fl

/-- R96 grants in the event that makes the conditions hold, and the other commands do so themselves.
This is that grant as an event of its own (notes/assumptions/5.md). -/
def execClaimGrant (o : Owner) (s : State) : Host.Outcome State Fault Refusal :=
  .next <| s.whenOn <|
    match s.place o with
    | .requested fl =>
      if s.lineFree fl && s.firstRequest fl == some o then s.grantClaim o fl else s
    | _ => s

end Sys2Proof.Machine
end

