-- ==== Sys2Proof/Machine/FrameCommands.lean ====
section
/-! DEFINITION. The commands of the frame unit (section 2.7): QUERY_FRAME, ADD_SPARE, WITHDRAW_SPARE,
RETIRE and CLEAR_COUNTS. -/

namespace Sys2Proof.Machine

/-! ## QUERY_FRAME (R40) -/

/-- The bytes of RSP2 stand in turn, as R181 says of RSP1 (DEDUCED, notes/assumptions/27.md). -/
def queryFrameCommand (w : CmdWord) (s : State) : CmdOut :=
  match argFrame (byteOf w.cmd1 1) with
  | some f =>
    let r := s.frame f
    s.done
      (word4 r.state.code (orNone (r.state.slice.map Fin.val)) (causeCode r.suspect) r.corrected)
      (word4 r.uncorrectable (orNone (posIn s.spareQ f)) (s.retirePos f)
        (orNone ((if r.state = .target then s.targetChan f else none).map Fin.val)))
  | none => s.refuse .badArg

def execQueryFrame (s : State) : Host.Outcome State Fault Refusal :=
  .next (s.takeCommand (· == 0x20) queryFrameCommand)

/-! ## ADD_SPARE (R41) -/

def addSpareCommand (w : CmdWord) (s : State) : CmdOut :=
  match argFrame (byteOf w.cmd1 1) with
  | some f =>
    s.guarded [.active] false <|
      if (s.frame f).state = .free then
        let s' := (s.joinSpare f).bump
        s'.done (word4 f.val (orNone (posIn s'.spareQ f)) s'.spareQ.length 0) 0
      else s.refuse .wrongState
  | none => s.refuse .badArg

def execAddSpare (s : State) : Host.Outcome State Fault Refusal :=
  .next (s.takeCommand (· == 0x21) addSpareCommand)

/-! ## WITHDRAW_SPARE (R42) -/

def withdrawSpareCommand (w : CmdWord) (s : State) : CmdOut :=
  match argFrame (byteOf w.cmd1 1) with
  | some f =>
    s.guarded [.active] false <|
      if (s.frame f).state = .spare then
        let s' := ((s.removeSpare f).setFrameState f .free).bump
        s'.done (word4 f.val 0 s'.spareQ.length 0) 0
      else s.refuse .wrongState
  | none => s.refuse .badArg

def execWithdrawSpare (s : State) : Host.Outcome State Fault Refusal :=
  .next (s.takeCommand (· == 0x22) withdrawSpareCommand)

/-! ## RETIRE (R43) -/

/-- What RETIRE answers: frame, state after, retire-queue position, cause, and the channel aborted
in byte 0 of RSP2 (R181; the byte of RSP2 DEDUCED, notes/assumptions/27.md). -/
def State.retireDone (s : State) (f : FrameNo) (aborted : Option ChanNo) : CmdOut :=
  s.done
    (word4 f.val (s.frame f).state.code (s.retirePos f) (causeCode (s.frame f).suspect))
    (word4 (orNone (aborted.map Fin.val)) 0 0 0)

/-- RETIRE of a TARGET frame: the marking, the abort of its channel and the retirement are one event
(R31, R67). -/
def State.retireTarget (s : State) (f : FrameNo) : CmdOut :=
  match s.targetChan f with
  | some c => ((s.setSuspect f .software).abortChannel c .targetRetired).retireDone f (some c)
  | none => (((s.setSuspect f .software).retireFrame f).bump).retireDone f none

def retireCommand (w : CmdWord) (s : State) : CmdOut :=
  match argFrame (byteOf w.cmd1 1) with
  | some f =>
    s.guarded [.staged, .active] false <|
      match (s.frame f).state with
      | .absent => s.refuse .wrongState
      | .untested => s.refuse .wrongState
      | .retired => s.refuse .wrongState
      | .target => s.retireTarget f
      | .bound _ =>
        if (s.frame f).suspect.isSome then s.retireDone f none
        else ((s.markSuspect f .software).bump).retireDone f none
      | .free => ((s.markSuspect f .software).bump).retireDone f none
      | .spare => ((s.markSuspect f .software).bump).retireDone f none
  | none => s.refuse .badArg

def execRetire (s : State) : Host.Outcome State Fault Refusal :=
  .next (s.takeCommand (· == 0x23) retireCommand)

/-! ## CLEAR_COUNTS (R44) -/

def clearCountsCommand (w : CmdWord) (s : State) : CmdOut :=
  match argFrame (byteOf w.cmd1 1) with
  | some f =>
    s.guarded [.staged, .importing, .active] false <|
      if (s.frame f).state = .absent then s.refuse .wrongState
      else (s.setFrame f { s.frame f with corrected := 0, uncorrectable := 0 }).done
        (word4 f.val 0 0 0) 0
  | none => s.refuse .badArg

def execClearCounts (s : State) : Host.Outcome State Fault Refusal :=
  .next (s.takeCommand (· == 0x24) clearCountsCommand)

end Sys2Proof.Machine
end

