-- ==== Sys2Proof/Machine/Images.lean ====
section
/-! DEFINITION. Map images (chapter 9): the records, the export session (EXPORT_BEGIN, EXPORT_NEXT) and
the import session (IMPORT_BEGIN, IMPORT_RECORD, IMPORT_END, IMPORT_ABORT). -/

namespace Sys2Proof.Machine

/-! ## Exported records (R159, R182) -/

def State.headerRecord (s : State) (savedGen : BitVec 16) : Word64 :=
  record8 1 1 s.presentCount 0 (savedGen.toNat / 256) savedGen.toNat 0 0

/-- A frame record of the image; TARGET is rendered FREE, ABSENT with counts 0 (R159). -/
def State.frameRecord (s : State) (f : FrameNo) : Word64 :=
  let r := s.frame f
  match r.state with
  | .target => record8 2 f.val FrameState.free.code 0xFF 0xFF 0 r.corrected r.uncorrectable
  | .absent => record8 2 f.val FrameState.absent.code 0xFF 0xFF 0 0 0
  | st =>
    record8 2 f.val st.code (orNone (st.slice.map Fin.val))
      (orNone (if st = .spare then posIn s.spareQ f else none)) (causeCode r.suspect)
      r.corrected r.uncorrectable

def State.sliceRecord (s : State) (i : SliceNo) : Word64 :=
  let r := s.slice i
  record8 3 i.val (if r.loc = .unmapped then 0 else 1) r.protect.toNat r.domain.toNat 0 0 0

def trailerRecord (check : Word32) : Word64 :=
  record8 4 0 0 0 (byteOf check 3) (byteOf check 2) (byteOf check 1) (byteOf check 0)

/-- The record of an index, built from the live tables (R154, R158, R159). -/
def State.imageRecord (s : State) (e : ExportSession) : Word64 :=
  if e.cursor = 0 then s.headerRecord e.savedGen
  else if h : e.cursor - 1 < 64 then s.frameRecord ⟨e.cursor - 1, h⟩
  else if h : e.cursor - 65 < 48 then s.sliceRecord ⟨e.cursor - 65, h⟩
  else trailerRecord (~~~e.check)

/-! ## EXPORT_BEGIN (R157) -/

def exportBeginCommand (_ : CmdWord) (s : State) : CmdOut :=
  s.guarded [.staged, .active] false <|
    let e : ExportSession := { cursor := 0, savedGen := s.generation, check := crcStart }
    { s with exportS := some e }.done (word4 s.exportS.isSome.toNat 0 0 0) 0

def execExportBegin (s : State) : Host.Outcome State Fault Refusal :=
  .next (s.takeCommand (· == 0x68) exportBeginCommand)

/-! ## EXPORT_NEXT (R158)

The record's bytes 0 to 3 stand in RSP2 and 4 to 7 in RSP3, the earlier byte the higher (DEDUCED,
notes/assumptions/12.md). -/

/-- The session after a record is returned: the next index with the record folded in, or IDLE after
the trailer. -/
def ExportSession.next (e : ExportSession) (img : Word64) : Option ExportSession :=
  if e.cursor + 1 < Config.imageRecords then
    some { e with cursor := e.cursor + 1, check := crcRecord e.check img }
  else none

def exportNextCommand (_ : CmdWord) (s : State) : CmdOut :=
  s.guarded [.staged, .active] false <|
    match s.exportS with
    | none => s.refuse .sequence
    | some e =>
      if s.generation ≠ e.savedGen then
        ⟨.stale, word4 e.cursor 0 0 0, 0, 0, { s with exportS := none }⟩
      else
        let img := s.imageRecord e
        ⟨.ok, word4 e.cursor 0 0 0, img.extractLsb' 32 32, img.extractLsb' 0 32,
          { s with exportS := e.next img }⟩

def execExportNext (s : State) : Host.Outcome State Fault Refusal :=
  .next (s.takeCommand (· == 0x69) exportNextCommand)

/-! ## IMPORT_BEGIN (R160) -/

def ImportSession.opened : ImportSession :=
  { expected := 0, check := crcStart, header := none
    frames := Vector.replicate 64 none, slices := Vector.replicate 48 none, received := none }

def importBeginCommand (_ : CmdWord) (s : State) : CmdOut :=
  s.guarded [.staged] true <|
    { s with importS := some .opened, exportS := none, phase := .importing }.stopScrubber.done
      (word4 s.presentCount 0 0 0) 0

def execImportBegin (s : State) : Host.Outcome State Fault Refusal :=
  .next (s.takeCommand (· == 0x60) importBeginCommand)

/-! ## Offered records (R155, R161, R182) -/

/-- An image record with its fields in range. -/
inductive ImgRecord where
  | header (h : ImgHeader)
  | frame (f : FrameNo) (r : ImgFrame)
  | slice (i : SliceNo) (r : ImgSlice)
  | trailer (check : Word32)
  deriving DecidableEq, Repr

def argImgState : Nat → Option ImgState
  | 0 => some .absent
  | 2 => some .free
  | 3 => some .spare
  | 4 => some .bound
  | 6 => some .retired
  | _ => none

/-- A cause code: `none` inside is not suspect. -/
def argCause : Nat → Option (Option Cause)
  | 0 => some none
  | 1 => some (some .inventory)
  | 2 => some (some .threshold)
  | 3 => some (some .uncorrectable)
  | 4 => some (some .software)
  | 5 => some (some .imported)
  | _ => none

/-- A byte that may hold 0xFF for none. -/
def argOrNone {α : Type} (parse : Nat → Option α) (b : Nat) : Option (Option α) :=
  if b = 0xFF then some none else (parse b).map some

def argFrameRecord (b : Nat → Nat) : Option ImgRecord :=
  match argFrame (b 1), argImgState (b 2), argOrNone argSlice (b 3), argOrNone argFrame (b 4),
      argCause (b 5) with
  | some f, some st, some bound, some pos, some cause =>
    some (.frame f
      { state := st, bound := bound, sparePos := pos, suspect := cause
        corrected := b 6, uncorrectable := b 7 })
  | _, _, _, _, _ => none

def argSliceRecord (b : Nat → Nat) : Option ImgRecord :=
  match argSlice (b 1) with
  | some i =>
    if b 2 ≤ 1 ∧ b 3 ≤ 1 ∧ b 4 < 16 then
      some (.slice i
        { mapped := b 2 = 1, protect := b 3 = 1, domain := BitVec.ofNat 4 (b 4) })
    else none
  | none => none

/-- The record of 8 bytes, if its kind is one of the four and every field is in range (R182). -/
def argRecord (img : Word64) : Option ImgRecord :=
  let b := recByte img
  match b 0 with
  | 1 =>
    if b 1 = 1 ∧ b 2 ≤ 64 then
      some (.header { present := b 2, generation := BitVec.ofNat 16 (b 4 * 256 + b 5) })
    else none
  | 2 => argFrameRecord b
  | 3 => argSliceRecord b
  | 4 => some (.trailer (img.extractLsb' 0 32))
  | _ => none

/-- The kind, and the frame or slice number, are those R154 gives for the index. -/
def ImgRecord.standsAt (n : Nat) : ImgRecord → Bool
  | .header _ => n == 0
  | .frame f _ => n == f.val + 1
  | .slice i _ => n == i.val + 65
  | .trailer _ => n == 113

/-- Store an accepted record (R161). -/
def ImportSession.accept (t : ImportSession) (img : Word64) (r : ImgRecord) : ImportSession :=
  let t1 := { t with expected := t.expected + 1 }
  match r with
  | .header h => { t1 with header := some h, check := crcRecord t.check img }
  | .frame f x => { t1 with frames := t.frames.set f (some x), check := crcRecord t.check img }
  | .slice i x => { t1 with slices := t.slices.set i (some x), check := crcRecord t.check img }
  | .trailer c => { t1 with received := some c }

/-- An import session ends without a commit: the shadow tables are discarded, the phase becomes STAGED
and the scrubber follows R108 (R148, R162). -/
def State.endImport (s : State) : State :=
  { s with importS := none, phase := .staged }.startScrubber

/-- A refusal that ends the session and reports the expected index (R161, R163). -/
def State.endRefused (s : State) (st : Status) (t : ImportSession) : CmdOut :=
  ⟨st, word4 0 t.expected 0 0, 0, 0, s.endImport⟩

/-! ## IMPORT_RECORD (R161) -/

def importRecordCommand (w : CmdWord) (s : State) : CmdOut :=
  let n := byteOf w.cmd1 0
  let img := w.cmd2 ++ w.cmd3
  let refuseIn := fun (st : Status) =>
    match s.phase, s.importS with
    | .importing, some t => s.endRefused st t
    | _, _ => s.refuse st
  match (if n ≤ 113 then argRecord img else none) with
  | none => refuseIn .badArg
  | some r =>
    s.guarded [.importing] false <|
      match s.importS with
      | none => s.refuse .sequence
      | some t =>
        if n = t.expected ∧ r.standsAt n = true then
          let t' := t.accept img r
          ⟨.ok, word4 n t'.expected 0 0, 0, 0, { s with importS := some t' }⟩
        else refuseIn .sequence

def execImportRecord (s : State) : Host.Outcome State Fault Refusal :=
  .next (s.takeCommand (· == 0x61) importRecordCommand)

/-! ## IMPORT_ABORT (R162) -/

def importAbortCommand (_ : CmdWord) (s : State) : CmdOut :=
  s.guarded [.importing] false
    ⟨.ok, word4 0 ((s.importS.map (·.expected)).getD 0) 0 0, 0, 0, s.endImport⟩

def execImportAbort (s : State) : Host.Outcome State Fault Refusal :=
  .next (s.takeCommand (· == 0x63) importAbortCommand)

/-! ## IMPORT_END: consistency within the image (R164) -/

/-- What stands for a frame record that was not accepted; no session reaches the checks without all. -/
def ImgFrame.missing : ImgFrame :=
  { state := .absent, bound := none, sparePos := none, suspect := none
    corrected := 0, uncorrectable := 0 }

def ImgSlice.missing : ImgSlice := { mapped := false, protect := false, domain := 0xF#4 }

def ImportSession.frame (t : ImportSession) (f : FrameNo) : ImgFrame := t.frames[f].getD .missing
def ImportSession.slice (t : ImportSession) (i : SliceNo) : ImgSlice := t.slices[i].getD .missing

/-- A BOUND frame record names this slice. -/
def ImgFrame.binds (r : ImgFrame) (i : SliceNo) : Bool := r.state == .bound && r.bound == some i

def ImportSession.spareCount (t : ImportSession) : Nat :=
  (List.finRange 64).countP fun f => (t.frame f).state == .spare

/-- Another BOUND frame record names the same slice. -/
def ImportSession.boundTwice (t : ImportSession) (f : FrameNo) : Bool :=
  match (t.frame f).state, (t.frame f).bound with
  | .bound, some i => (List.finRange 64).any fun g => g != f && (t.frame g).binds i
  | _, _ => false

/-- The spare position is k or above, or is held by another SPARE record. -/
def ImportSession.badSparePos (t : ImportSession) (f : FrameNo) : Bool :=
  match (t.frame f).state, (t.frame f).sparePos with
  | .spare, some p =>
    decide (t.spareCount ≤ p.val) ||
      (List.finRange 64).any fun g =>
        g != f && (t.frame g).state == .spare && (t.frame g).sparePos == some p
  | _, _ => false

/-- A frame record is named against one of R164's conditions. -/
def ImportSession.badFrame (t : ImportSession) (f : FrameNo) : Bool :=
  let r := t.frame f
  (r.bound.isSome != (r.state == .bound)) ||
  (r.sparePos.isSome != (r.state == .spare)) ||
  (r.state == .retired && r.suspect.isNone) ||
  (r.state == .absent && (r.suspect.isSome || r.corrected != 0 || r.uncorrectable != 0)) ||
  t.boundTwice f || t.badSparePos f

/-- A slice record's mapped flag disagrees with the BOUND frame records. -/
def ImportSession.badSlice (t : ImportSession) (i : SliceNo) : Bool :=
  (t.slice i).mapped != (List.finRange 64).any fun f => (t.frame f).binds i

def ImportSession.badHeader (t : ImportSession) : Bool :=
  (t.header.map (·.present)).getD 0 !=
    (List.finRange 64).countP fun f => (t.frame f).state != .absent

/-- The lowest record index named against a failed condition of R164. -/
def ImportSession.inconsistent (t : ImportSession) : Option Nat :=
  if t.badHeader then some 0
  else match (List.finRange 64).find? t.badFrame with
    | some f => some (f.val + 1)
    | none => ((List.finRange 48).find? t.badSlice).map fun i => i.val + 65

/-! ## IMPORT_END: agreement with the hardware (R165) -/

/-- The lowest record index of a frame that the image binds and that is ABSENT or RETIRED now. -/
def State.disagrees (s : State) (t : ImportSession) : Option Nat :=
  ((List.finRange 64).find? fun f =>
    (t.frame f).state == .bound &&
      ((s.frame f).state == .absent || (s.frame f).state == .retired)).map fun f => f.val + 1

/-! ## IMPORT_END: commit (R166, R167) -/

/-- An image's cause INVENTORY is recorded as IMPORT. -/
def Cause.asImported : Cause → Cause
  | .inventory => .imported
  | c => c

/-- State and suspect flag that the commit gives a frame, by R166's table. The rows that the checks
before it exclude stand as notes/assumptions/20.md says. -/
def importedState (live : FrameRec) (img : ImgFrame) : FrameState × Option Cause :=
  match live.state with
  | .free =>
    match img.state, img.suspect with
    | .absent, _ => (.free, live.suspect)
    | .free, none => (.free, live.suspect)
    | .spare, none => (.spare, live.suspect)
    | .bound, c =>
      match img.bound with
      | some i => (.bound i, c.map Cause.asImported)
      | none => (.free, live.suspect)
    | _, some c => (.retired, some c.asImported)
    | .retired, none => (.retired, some .imported)
  | st => (st, live.suspect)

/-- A frame's record after the commit; an ABSENT frame keeps its own (R166). -/
def importedFrame (live : FrameRec) (img : ImgFrame) : FrameRec :=
  if live.state = .absent then live
  else
    { state := (importedState live img).1
      suspect := (importedState live img).2
      corrected := satAdd live.corrected img.corrected
      uncorrectable := satAdd live.uncorrectable img.uncorrectable }

/-- A slice's record after the commit: MAPPED on the frame that the image binds to it, or its
attributes alone (R167). -/
def State.importedSlice (s : State) (t : ImportSession) (i : SliceNo) : SliceRec :=
  let loc :=
    if (t.slice i).mapped then
      match (List.finRange 64).find? fun f => (t.frame f).binds i with
      | some f => SliceLoc.mapped f
      | none => (s.slice i).loc
    else (s.slice i).loc
  { loc := loc, protect := (t.slice i).protect, domain := (t.slice i).domain }

/-- The frames the commit makes SPARE, in ascending image position, gaps closed up (R166). -/
def State.importedSpares (s : State) (t : ImportSession) : List FrameNo :=
  (List.finRange 64).filterMap fun p =>
    (List.finRange 64).find? fun f =>
      (t.frame f).sparePos == some p && (s.frame f).state == .free &&
        (importedFrame (s.frame f) (t.frame f)).state == .spare

/-- The suspect BOUND frames after the commit in ascending number, up to 8 (R167). -/
def State.importedRetires (s : State) (t : ImportSession) : List FrameNo :=
  ((List.finRange 64).filter fun f =>
    let r := importedFrame (s.frame f) (t.frame f)
    r.state.isBound && r.suspect.isSome).take Config.retireCapacity

/-- The commit of R166 and R167 without the generation. -/
def State.importTables (s : State) (t : ImportSession) : State :=
  { s with
    slices := Vector.ofFn (s.importedSlice t)
    frames := Vector.ofFn fun f => importedFrame (s.frame f) (t.frame f)
    spareQ := s.spareQ ++ s.importedSpares t
    retireQ := s.importedRetires t
    phase := .active
    importS := none }

/-- The commit, with its flags and the generation (R167). -/
def State.importCommit (s : State) (t : ImportSession) : State :=
  let s1 := s.importTables t
  let suspects := (List.finRange 64).any fun f =>
    (s.frame f).suspect.isNone && (s1.frame f).suspect.isSome
  let retires := (List.finRange 64).any fun f =>
    (s.frame f).state != .retired && (s1.frame f).state == .retired
  (((s1.startScrubber.raiseIf suspects .frameSuspect).raiseIf retires .frameRetired)).bumpIf
    (s.mapChanged s1)

/-- MISMATCH ends the session; it reports the group and the lowest record index (R164, R165). -/
def State.endMismatch (s : State) (group index : Nat) : CmdOut :=
  ⟨.mismatch, word4 group index 0 0, 0, 0, s.endImport⟩

/-- The checks of R163 to R165 in order, and the commit. -/
def State.importEnd (s : State) (t : ImportSession) : CmdOut :=
  if t.expected < Config.imageRecords then s.endRefused .sequence t
  else if ~~~t.check ≠ t.received.getD 0 then
    ⟨.checkFailed, ~~~t.check, t.received.getD 0, 0, s.endImport⟩
  else match t.inconsistent with
    | some n => s.endMismatch 1 n
    | none =>
      match s.disagrees t with
      | some n => s.endMismatch 2 n
      | none =>
        let s' := s.importCommit t
        let mapped := (List.finRange 48).countP fun i => (t.slice i).mapped
        s'.done (word4 mapped s'.spareQ.length s'.retireQ.length 0)
          (word2 ((t.header.map (·.generation.toNat)).getD 0) 0)

def importEndCommand (_ : CmdWord) (s : State) : CmdOut :=
  s.guarded [.importing] false <|
    match s.importS with
    | none => s.refuse .sequence
    | some t => s.importEnd t

def execImportEnd (s : State) : Host.Outcome State Fault Refusal :=
  .next (s.takeCommand (· == 0x62) importEndCommand)

end Sys2Proof.Machine
end

