-- ==== Sys2Proof/Machine/MapCommands.lean ====
section
/-! DEFINITION. The commands of the map unit (section 1.5): MAP, UNMAP, SET_ATTR, QUERY_SLICE and
LOCK_MAP. -/

namespace Sys2Proof.Machine

/-! ## MAP (R13, R14) -/

/-- Checks 5 and 6 of R13: the frame a MAP takes, or its refusal. -/
def State.chooseMapFrame (s : State) : Option FrameNo → Except Status FrameNo
  | some f =>
    if (s.frame f).state = .free ∨ (s.frame f).state = .spare then .ok f else .error .wrongState
  | none =>
    match (List.finRange 64).find? fun f => (s.frame f).state == .free with
    | some f => .ok f
    | none => .error .noFrame

/-- The changes of R14. -/
def State.bindSlice (s : State) (i : SliceNo) (f : FrameNo) (protect : Bool) (domain : DomainSet) :
    State :=
  let s1 := if (s.frame f).state = .spare then s.removeSpare f else s
  let s2 := (s1.setFrameState f (.bound i)).setSlice i
    { loc := .mapped f, protect := protect, domain := domain }
  { s2 with phase := if s2.phase = Phase.staged then Phase.active else s2.phase }.bump

def mapCommand (w : CmdWord) (s : State) : CmdOut :=
  match argSlice (byteOf w.cmd1 0), argFrameOrAny (byteOf w.cmd1 1) with
  | some i, some fa =>
    s.guarded [.staged, .active] true <|
      match (s.slice i).loc with
      | .migrating _ _ => s.refuse .busy
      | .mapped _ => s.refuse .wrongState
      | .unmapped =>
        match s.chooseMapFrame fa with
        | .error st => s.refuse st
        | .ok f =>
          (s.bindSlice i f (argProtect (byteOf w.cmd2 0)) (argDomain (byteOf w.cmd2 1))).done
            (word4 i.val f.val 0 0) 0
  | _, _ => s.refuse .badArg

def execMap (s : State) : Host.Outcome State Fault Refusal :=
  .next (s.takeCommand (· == 0x10) mapCommand)

/-! ## UNMAP (R16, R17) -/

/-- The changes of R17. -/
def State.unbindSlice (s : State) (i : SliceNo) (f : FrameNo) : State :=
  let s1 := (s.setLoc i .unmapped).releaseFrame f
  { s1 with poison := s1.poison.filter fun e => e.1 != i }.bump

def unmapCommand (w : CmdWord) (s : State) : CmdOut :=
  match argSlice (byteOf w.cmd1 0) with
  | some i =>
    s.guarded [.staged, .active] true <|
      match (s.slice i).loc with
      | .migrating _ _ => s.refuse .busy
      | .unmapped => s.refuse .wrongState
      | .mapped f =>
        let s' := s.unbindSlice i f
        ⟨.ok, word4 f.val (s'.frame f).state.code (s.poisonOf i) 0, 0, 0, s'⟩
  | none => s.refuse .badArg

def execUnmap (s : State) : Host.Outcome State Fault Refusal :=
  .next (s.takeCommand (· == 0x11) unmapCommand)

/-! ## SET_ATTR (R19) -/

def setAttrCommand (w : CmdWord) (s : State) : CmdOut :=
  match argSlice (byteOf w.cmd1 0) with
  | some i =>
    s.guarded [.staged, .active] true <|
      let r := s.slice i
      let protect := argProtect (byteOf w.cmd2 0)
      let domain := argDomain (byteOf w.cmd2 1)
      ((s.setSlice i { r with protect := protect, domain := domain }).bumpIf
        (r.protect != protect || r.domain != domain)).done
        (word4 i.val 0 protect.toNat domain.toNat) 0
  | none => s.refuse .badArg

def execSetAttr (s : State) : Host.Outcome State Fault Refusal :=
  .next (s.takeCommand (· == 0x12) setAttrCommand)

/-! ## QUERY_SLICE (R21) -/

/-- The bytes of RSP2 stand in turn, as R181 says of RSP1 (DEDUCED, notes/assumptions/27.md). -/
def querySliceCommand (w : CmdWord) (s : State) : CmdOut :=
  match argSlice (byteOf w.cmd1 0) with
  | some i =>
    let r := s.slice i
    s.done
      (word4 r.loc.code (orNone (r.loc.source.map Fin.val)) r.protect.toNat r.domain.toNat)
      (word4 (orNone (r.loc.channel.map Fin.val)) (s.poisonOf i) 0 0)
  | none => s.refuse .badArg

def execQuerySlice (s : State) : Host.Outcome State Fault Refusal :=
  .next (s.takeCommand (· == 0x13) querySliceCommand)

/-! ## LOCK_MAP (R11) -/

def lockMapCommand (_ : CmdWord) (s : State) : CmdOut :=
  s.guarded [.staged, .importing, .active] false
    ⟨.ok, word4 1 0 0 0, 0, 0, { s with locked := true }⟩

def execLockMap (s : State) : Host.Outcome State Fault Refusal :=
  .next (s.takeCommand (· == 0x14) lockMapCommand)

end Sys2Proof.Machine
end

