-- ==== Sys2Proof/Machine/Migration.lean ====
section
/-! DEFINITION. The events of the migration engine (chapter 3): the line copy, the commit, the
chain-broken abort and the dispatcher's start. -/

namespace Sys2Proof.Machine

/-! ## LINE_COPY_BEGIN (R55) -/

/-- RUNNING, a cursor below 16,384 and no copy in flight (R55). -/
def State.mayBeginCopy (s : State) (c : ChanNo) : Bool :=
  match (s.chan c).state with
  | .running m _ => decide (m.cursor < Config.linesPerFrame) && s.place (.channel c) == .empty
  | _ => false

def execLineCopyBegin (c : ChanNo) (s : State) : Host.Outcome State Fault Refusal :=
  .next <| s.whenOn <| if s.mayBeginCopy c then s.beginCopy c else s

/-! ## LINE_COPY_READ_OUTCOME (R56 to R58, R68) -/

/-- The channel requests its write of the same-numbered line of the target (R56). -/
def State.writeTarget (s : State) (c : ChanNo) (m : Migration) (l : LineNo) (d : Line) : State :=
  s.request (liveOp (.channel c) ⟨m.target, l⟩ (.writeLine d))

/-- Lines poisoned goes up by one (R49, R58). -/
def State.countPoisoned (s : State) (c : ChanNo) (m : Migration) : State :=
  s.setChan c
    { s.chan c with state :=
        (s.chan c).state.withMigration { m with poisoned := m.poisoned + 1 } }

/-- An uncorrectable source line (R58): zeros to the target if the entry is in the list, else the abort
POISON_FULL in the same event, with one advance of the generation for marking and abort (R68). -/
def State.copyLost (s : State) (c : ChanNo) (m : Migration) (fl : FrameLine) : State :=
  let s1 := s.countAndMark fl.frame .uncorrectable
  let s2 := s1.addPoison m.slice fl.line
  match s1.poisonResult m.slice fl.line with
  | .present => (s2.bumpIf (s.marks fl.frame .uncorrectable)).writeTarget c m fl.line zeroLine
  | .added =>
    ((s2.bumpIf (s.marks fl.frame .uncorrectable)).countPoisoned c m).writeTarget c m fl.line zeroLine
  | .full => s2.abortChannel c .poisonFull

/-- The source read's outcome arrives (R56 to R58). -/
def State.copyRead (s : State) (k : Socket) (op : ModOp) (c : ChanNo) (m : Migration)
    (o : ReadOutcome) : State :=
  let data := s.contents op.fl
  let s' := s.complete k op
  match o with
  | .uncorrectable => s'.copyLost c m op.fl
  | _ => (s'.takeOutcome op.fl.frame o).writeTarget c m op.fl.line data

def execLineCopyReadOutcome (k : Socket) (o : ReadOutcome) (s : State) :
    Host.Outcome State Fault Refusal :=
  .next <| s.whenOn <|
    match s.nextOp k with
    | some op =>
      match op.req, op.act, op.standing with
      | .channel c, .read, .live =>
        match (s.chan c).state with
        | .running m _ => s.copyRead k op c m o
        | _ => s
      | _, _, _ => s
    | none => s

/-! ## LINE_COPY_COMPLETE (R59 to R61) -/

/-- The commit's changes to the tables (R60, R61): the slice is MAPPED on the target, the target BOUND,
the old source released, the channel IDLE, MIG_DONE, and the channels that waited on it started. -/
def State.commit (s : State) (c : ChanNo) (m : Migration) (source : FrameNo) : State :=
  let waiters := s.waitersOn c
  let s1 := (s.setLoc m.slice (.mapped m.target)).setFrameState m.target (.bound m.slice)
  let s2 := s1.releaseFrame source
  let s3 := (s2.setChan c { state := .idle, last := .committed }).raise .migDone
  (waiters.foldl (fun t d => t.startChannel d) s3).bump

/-- A target write has completed: the cursor goes up, the claim is released with the held writes
re-translated, and the next copy begins; at cursor 16,384 the migration commits (R59). -/
def State.copyDone (s : State) (k : Socket) (op : ModOp) (c : ChanNo) (m : Migration)
    (source : FrameNo) : State :=
  let s' := s.complete k op
  let m' := { m with cursor := m.cursor + 1 }
  if m'.cursor < Config.linesPerFrame then
    ((s'.setChan c { s'.chan c with state := .running m' source }).releasePlace (.channel c)).beginCopy c
  else (s'.commit c m' source).releasePlace (.channel c)

def execLineCopyComplete (k : Socket) (s : State) : Host.Outcome State Fault Refusal :=
  .next <| s.whenOn <|
    match s.nextOp k with
    | some op =>
      match op.req, op.act.isWrite, op.standing with
      | .channel c, true, .live =>
        match (s.chan c).state with
        | .running m f => s.copyDone k op c m f
        | _ => s
      | _, _, _ => s
    | none => s

/-! ## CHAIN_BROKEN_ABORT (R66) -/

/-- The first channel whose predecessor has aborted aborts in its turn. -/
def execChainBrokenAbort (s : State) : Host.Outcome State Fault Refusal :=
  .next <| s.whenOn <|
    match s.broken with
    | c :: _ => s.abortChannel c .chainBroken
    | [] => s

/-! ## DISPATCH_START (R39, R72) -/

/-- The slice and source of a retire-queue entry, if the entry is eligible: its slice is MAPPED (R39). -/
def State.eligibleEntry (s : State) (f : FrameNo) : Option (SliceNo × FrameNo) :=
  match (s.frame f).state with
  | .bound i =>
    match (s.slice i).loc with
    | .mapped _ => some (i, f)
    | _ => none
  | _ => none

/-- What a dispatch start takes, while R72's four conditions hold: slice and source of the oldest
eligible entry, the spare-queue head, the lowest-numbered IDLE channel. -/
def State.dispatchChoice (s : State) : Option (SliceNo × FrameNo × FrameNo × ChanNo) :=
  if s.policy.autoRetire then
    match s.retireQ.findSome? s.eligibleEntry, s.spareQ.head?, s.idleChan with
    | some (i, f), some t, some c => some (i, f, t, c)
    | _, _, _ => none
  else none

def execDispatchStart (s : State) : Host.Outcome State Fault Refusal :=
  .next <| s.whenOn <|
    match s.dispatchChoice with
    | some (i, f, t, c) => s.setUpMigration i f t c none .auto
    | none => s

end Sys2Proof.Machine
end

