-- ==== Sys2Proof/Machine/PartCommands.lean ====
section
/-! DEFINITION. BAD_COMMAND, the poison commands (section 4.4), SET_POLICY and QUERY_PART (sections 8.7,
8.8), and ADOPT_DEFAULT (section 7.4). -/

namespace Sys2Proof.Machine

/-! ## A word whose code names no command (R147) -/

def badCommand (_ : CmdWord) (s : State) : CmdOut := s.refuse .badCommand

def execBadCommand (s : State) : Host.Outcome State Fault Refusal :=
  .next (s.takeCommand (fun c => !knownCodes.contains c) badCommand)

/-! ## CLEAR_POISON (R85) -/

def clearPoisonCommand (w : CmdWord) (s : State) : CmdOut :=
  match argSlice (byteOf w.cmd1 0), argLine (lowHalf w.cmd2) with
  | some i, some l =>
    s.guarded [.staged, .active] true <|
      if s.poison.contains (i, l) then
        let s' := s.dropPoison i l
        s'.done (word4 i.val (s.poison.idxOf (i, l)) s'.poison.length 0) (word2 l.val 0)
      else s.refuse .wrongState
  | _, _ => s.refuse .badArg

def execClearPoison (s : State) : Host.Outcome State Fault Refusal :=
  .next (s.takeCommand (· == 0x40) clearPoisonCommand)

/-! ## QUERY_POISON (R86) -/

def queryPoisonCommand (w : CmdWord) (s : State) : CmdOut :=
  let n := byteOf w.cmd1 0
  if n < Config.poisonCapacity then
    let e := s.poison[n]?
    s.done (word4 (orNone (e.map (·.1.val))) 0 s.poison.length 0)
      (word2 ((e.map (·.2.val)).getD 0) 0)
  else s.refuse .badArg

def execQueryPoison (s : State) : Host.Outcome State Fault Refusal :=
  .next (s.takeCommand (· == 0x41) queryPoisonCommand)

/-! ## SET_POLICY (R151) -/

/-- The policy record a SET_POLICY word carries, if every field is in range (R151, R179). -/
def argPolicy (w : CmdWord) : Option Policy :=
  let auto := byteOf w.cmd1 0
  let threshold := byteOf w.cmd1 1
  let low := byteOf w.cmd1 2
  let reserve := byteOf w.cmd1 3
  if auto ≤ 1 ∧ threshold ≠ 0 ∧ low ≤ 63 ∧ reserve ≤ 16 then
    some
      { autoRetire := auto = 1, threshold := threshold, spareLow := low
        scrubInterval := lowHalf w.cmd2, defaultReserve := reserve }
  else none

/-- What the interval just written does to the scrubber in STAGED and ACTIVE (R118). -/
def State.followInterval (s : State) (old : Nat) : State :=
  let new := s.policy.scrubInterval
  if new = old then s
  else if new = 0 then s.stopScrubber
  else s.startScrubber

def setPolicyCommand (w : CmdWord) (s : State) : CmdOut :=
  match argPolicy w with
  | some p =>
    let s1 := { s with policy := p }
    let s2 := if s.inPhase [.staged, .active] then s1.followInterval s.policy.scrubInterval else s1
    s2.done s.policy.word1 s.policy.word2
  | none => s.refuse .badArg

def execSetPolicy (s : State) : Host.Outcome State Fault Refusal :=
  .next (s.takeCommand (· == 0x50) setPolicyCommand)

/-! ## QUERY_PART (R152, R153) -/

def queryPartCommand (w : CmdWord) (s : State) : CmdOut :=
  let st := fun c => (s.chan c).state.code
  match byteOf w.cmd1 0 with
  | 0 =>
    s.done (word4 s.phase.code s.locked.toNat s.spareQ.length s.retireQ.length)
      (word2 (s.poison.length + 256 * (st 0 + 4 * st 1 + 16 * st 2 + 64 * st 3))
        s.scrub.passCount.toNat)
  | 1 => s.done s.policy.word1 s.policy.word2
  | _ => s.refuse .badArg

def execQueryPart (s : State) : Host.Outcome State Fault Refusal :=
  .next (s.takeCommand (· == 0x51) queryPartCommand)

/-! ## ADOPT_DEFAULT (R130, R131) -/

/-- The FREE frames in ascending number. -/
def State.freeFrames (s : State) : List FrameNo :=
  (List.finRange 64).filter fun f => (s.frame f).state == .free

/-- The number of slices ADOPT_DEFAULT maps: n = min(48, max(0, g − r)) (R131). -/
def State.adoptCount (s : State) : Nat := min 48 (s.freeFrames.length - s.policy.defaultReserve)

/-- The state ADOPT_DEFAULT gives a frame: the k-th FREE frame is BOUND to slice k for k below n, the
rest are SPARE. -/
def State.adoptFrame (s : State) (f : FrameNo) : FrameState :=
  if (s.frame f).state = .free then
    if h : s.freeFrames.idxOf f < 48 then
      if s.freeFrames.idxOf f < s.adoptCount then .bound ⟨s.freeFrames.idxOf f, h⟩ else .spare
    else .spare
  else (s.frame f).state

def State.adoptSlice (s : State) (i : SliceNo) : SliceRec :=
  if i.val < s.adoptCount then
    match s.freeFrames[i.val]? with
    | some f => { loc := .mapped f, protect := false, domain := 0xF#4 }
    | none => s.slice i
  else s.slice i

/-- The changes of R131. -/
def State.adopt (s : State) : State :=
  { s with
    slices := Vector.ofFn s.adoptSlice
    frames := Vector.ofFn fun f => { s.frame f with state := s.adoptFrame f }
    spareQ := s.spareQ ++ s.freeFrames.drop s.adoptCount
    phase := .active }.bumpIf (!s.freeFrames.isEmpty)

def adoptDefaultCommand (_ : CmdWord) (s : State) : CmdOut :=
  s.guarded [.staged] true <|
    s.adopt.done (word4 s.adoptCount (s.freeFrames.length - s.adoptCount) 0 0) 0

def execAdoptDefault (s : State) : Host.Outcome State Fault Refusal :=
  .next (s.takeCommand (· == 0x52) adoptDefaultCommand)

end Sys2Proof.Machine
end

