-- ==== Sys2Proof/Machine/Scrub.lean ====
section
/-! DEFINITION. The events of the patrol scrubber (chapter 6). -/

namespace Sys2Proof.Machine

/-! ## SCRUB_TIMER_EXPIRY (R109, R110) -/

/-- The timer's expiry begins a scrub, or is left pending while one is in flight. The timer counts the
next interval from zero (R108). -/
def State.timerExpires (s : State) : State :=
  let s' := { s with scrub := { s.scrub with timer := some 0 } }
  if s.scrub.stage = .none then s'.chooseScrub
  else { s' with scrub := { s'.scrub with expiryPending := true } }

def execScrubTimerExpiry (s : State) : Host.Outcome State Fault Refusal :=
  .next <| s.whenOn <| if s.scrub.timer.isSome then s.timerExpires else s

/-! ## SCRUB_READ_OUTCOME (R112 to R114) -/

/-- Corrected: written back if the frame is still in use once the count and marking are made (R113). -/
def State.scrubCorrected (s : State) (fl : FrameLine) (d : Line) : State :=
  let s' := s.takeOutcome fl.frame .corrected
  if (s'.frame fl.frame).state.inUse then
    { s' with scrub := { s'.scrub with stage := .writingBack } }.request
      (liveOp .scrubber fl (.writeLine d))
  else s'.endScrub

/-- Uncorrectable: the entry is asked for if the frame is BOUND once the marking is made (R79, R114). -/
def State.scrubLost (s : State) (fl : FrameLine) : State :=
  let s' := s.takeOutcome fl.frame .uncorrectable
  match (s'.frame fl.frame).state with
  | .bound i => (s'.addPoison i fl.line).endScrub
  | _ => s'.endScrub

def State.scrubRead (s : State) (k : Socket) (op : ModOp) (o : ReadOutcome) : State :=
  let data := s.contents op.fl
  let s' := s.complete k op
  match o with
  | .clean => s'.endScrub
  | .corrected => s'.scrubCorrected op.fl data
  | .uncorrectable => s'.scrubLost op.fl

def execScrubReadOutcome (k : Socket) (o : ReadOutcome) (s : State) :
    Host.Outcome State Fault Refusal :=
  .next <| s.whenOn <|
    match s.nextOp k with
    | some op =>
      match op.req, op.act, op.standing with
      | .scrubber, .read, .live => s.scrubRead k op o
      | _, _, _ => s
    | none => s

/-! ## SCRUB_WRITE_BACK_COMPLETE (R113, R115) -/

def execScrubWriteBackComplete (k : Socket) (s : State) : Host.Outcome State Fault Refusal :=
  .next <| s.whenOn <|
    match s.nextOp k with
    | some op =>
      match op.req, op.act.isWrite, op.standing with
      | .scrubber, true, .live => (s.complete k op).endScrub
      | _, _, _ => s
    | none => s

end Sys2Proof.Machine
end

