-- ==== Sys2Proof/Machine/Dispatch.lean ====
section
/-! DEFINITION. The meaning of every command: its effect on everything but the queue of waiting
commands. -/

namespace Sys2Proof.Machine

def exec (i : Instr) (s : State) : Host.Outcome State Fault Refusal :=
  match i with
  | .powerOnReset codes => Sys2Proof.Machine.execPowerOnReset codes s
  | .powerGoodFall => Sys2Proof.Machine.execPowerGoodFall s
  | .warmRestart => Sys2Proof.Machine.execWarmRestart s
  | .warmRestartInput active => Sys2Proof.Machine.execWarmRestartInput active s
  | .warmRestartWrite a v => Sys2Proof.Machine.execWarmRestartWrite a v s
  | .dataPortTransaction who access addr => Sys2Proof.Machine.execDataPortTransaction who access addr s
  | .dataPortReadOutcome k o => Sys2Proof.Machine.execDataPortReadOutcome k o s
  | .dataPortWriteComplete k => Sys2Proof.Machine.execDataPortWriteComplete k s
  | .abandonedOperationComplete k o => Sys2Proof.Machine.execAbandonedOperationComplete k o s
  | .arbiterGrant k => Sys2Proof.Machine.execArbiterGrant k s
  | .claimGrant o => Sys2Proof.Machine.execClaimGrant o s
  | .lineCopyBegin c => Sys2Proof.Machine.execLineCopyBegin c s
  | .lineCopyReadOutcome k o => Sys2Proof.Machine.execLineCopyReadOutcome k o s
  | .lineCopyComplete k => Sys2Proof.Machine.execLineCopyComplete k s
  | .chainBrokenAbort => Sys2Proof.Machine.execChainBrokenAbort s
  | .dispatchStart => Sys2Proof.Machine.execDispatchStart s
  | .scrubTimerExpiry => Sys2Proof.Machine.execScrubTimerExpiry s
  | .scrubReadOutcome k o => Sys2Proof.Machine.execScrubReadOutcome k o s
  | .scrubWriteBackComplete k => Sys2Proof.Machine.execScrubWriteBackComplete k s
  | .inventoryWriteComplete k => Sys2Proof.Machine.execInventoryWriteComplete k s
  | .inventoryReadOutcome k o => Sys2Proof.Machine.execInventoryReadOutcome k o s
  | .submit a v => Sys2Proof.Machine.execSubmit a v s
  | .rspPop a v => Sys2Proof.Machine.execRspPop a v s
  | .eventsWrite a v => Sys2Proof.Machine.execEventsWrite a v s
  | .eventEnableWrite a v => Sys2Proof.Machine.execEventEnableWrite a v s
  | .faultEnableWrite a v => Sys2Proof.Machine.execFaultEnableWrite a v s
  | .registerWrite a r v => Sys2Proof.Machine.execRegisterWrite a r v s
  | .badCommand => Sys2Proof.Machine.execBadCommand s
  | .map => Sys2Proof.Machine.execMap s
  | .unmap => Sys2Proof.Machine.execUnmap s
  | .setAttr => Sys2Proof.Machine.execSetAttr s
  | .querySlice => Sys2Proof.Machine.execQuerySlice s
  | .lockMap => Sys2Proof.Machine.execLockMap s
  | .queryFrame => Sys2Proof.Machine.execQueryFrame s
  | .addSpare => Sys2Proof.Machine.execAddSpare s
  | .withdrawSpare => Sys2Proof.Machine.execWithdrawSpare s
  | .retire => Sys2Proof.Machine.execRetire s
  | .clearCounts => Sys2Proof.Machine.execClearCounts s
  | .migrate => Sys2Proof.Machine.execMigrate s
  | .cancel => Sys2Proof.Machine.execCancel s
  | .queryChannel => Sys2Proof.Machine.execQueryChannel s
  | .clearPoison => Sys2Proof.Machine.execClearPoison s
  | .queryPoison => Sys2Proof.Machine.execQueryPoison s
  | .setPolicy => Sys2Proof.Machine.execSetPolicy s
  | .queryPart => Sys2Proof.Machine.execQueryPart s
  | .adoptDefault => Sys2Proof.Machine.execAdoptDefault s
  | .importBegin => Sys2Proof.Machine.execImportBegin s
  | .importRecord => Sys2Proof.Machine.execImportRecord s
  | .importEnd => Sys2Proof.Machine.execImportEnd s
  | .importAbort => Sys2Proof.Machine.execImportAbort s
  | .exportBegin => Sys2Proof.Machine.execExportBegin s
  | .exportNext => Sys2Proof.Machine.execExportNext s

end Sys2Proof.Machine
end

