-- ==== Sys2Proof/Machine/Step.lean ====
section
/-! DEFINITION. One step: the command at the front of the queue, or one microsecond with none. -/

namespace Sys2Proof.Machine

/-- The microsecond counted brings the timer to its interval (R108). -/
def State.timerDue (s : State) : Bool :=
  match s.scrub.timer with
  | some n => decide (s.policy.scrubInterval ≤ n + 1)
  | none => false

/-- With no command waiting, one microsecond passes: a counting scrub timer counts it, and an expiry
that falls due joins the queue (DESIGN CHOICE, notes/assumptions/4.md). Else the part idles. -/
def State.tick (s : State) : State :=
  { s with
    scrub := { s.scrub with timer := s.scrub.timer.map fun n => if s.timerDue then 0 else n + 1 }
    pending := if s.timerDue then s.pending ++ [.scrubTimerExpiry] else s.pending }

/-- Take the command at the front of the queue and run it with the rest; with none, a tick. -/
def step (s : State) : Host.Outcome State Fault Refusal :=
  match s.pending with
  | [] => .next s.tick
  | c :: rest => exec c { s with pending := rest }

/-- The state with the command that a word spells at the front of its queue; unchanged where the word
spells none, as every word does (notes/assumptions/25.md). -/
def State.withFetchWord (s : State) (nbits w : Nat) : State :=
  match decodeTableWord nbits w with
  | some c => { s with pending := c :: s.pending }
  | none => s

end Sys2Proof.Machine
end

