-- ==== Sys2Proof/Safety.lean ====
section
/-! DEFINITION. The laws the spec states for the whole part, as claims use them: what stands in every
state that a run from power-on reaches. -/

namespace Sys2Proof.Machine

/-! ## Slices, frames and channels (R4, R5, R23, R27, R32, R33, R37, R38, R48, R53, R75) -/

/-- R4: a slice has source frame F exactly while F is BOUND and names it. -/
abbrev sliceFrameLaw (s : State) : Prop :=
  ∀ i : SliceNo, ∀ f : FrameNo, (s.slice i).loc.source = some f ↔ (s.frame f).state = .bound i

/-- R4: a slice is MIGRATING on channel c exactly while c is ARMED or RUNNING and names it. -/
abbrev sliceChanLaw (s : State) : Prop :=
  ∀ i : SliceNo, ∀ c : ChanNo,
    (s.slice i).loc.channel = some c ↔ (s.chan c).state.migration.map (·.slice) = some i

/-- R23: a frame is TARGET exactly while one channel ARMED or RUNNING names it, and only one does. -/
abbrev targetLaw (s : State) : Prop :=
  (∀ f : FrameNo, (s.frame f).state = .target ↔
    ∃ c : ChanNo, (s.chan c).state.migration.map (·.target) = some f) ∧
  ∀ c d : ChanNo, ∀ f : FrameNo, (s.chan c).state.migration.map (·.target) = some f →
    (s.chan d).state.migration.map (·.target) = some f → c = d

/-- R33: the spare queue holds each SPARE frame once and nothing else, and is empty outside ACTIVE. -/
abbrev spareLaw (s : State) : Prop :=
  s.spareQ.Nodup ∧ (∀ f : FrameNo, f ∈ s.spareQ ↔ (s.frame f).state = .spare) ∧
    (s.phase ≠ .active → s.spareQ = [])

/-- R37, R38: at most 8 suspect BOUND frames, none twice, and 8 while another waits outside. -/
abbrev retireLaw (s : State) : Prop :=
  s.retireQ.Nodup ∧ s.retireQ.length ≤ Config.retireCapacity ∧
    (∀ f ∈ s.retireQ, (s.frame f).state.isBound = true ∧ (s.frame f).suspect.isSome = true) ∧
    ∀ f : FrameNo, s.waitsUnqueued f = true → s.retireQ.length = Config.retireCapacity

/-- R27, R32: a suspect frame is BOUND or RETIRED, and a RETIRED frame is suspect. -/
abbrev suspectLaw (s : State) : Prop :=
  ∀ f : FrameNo,
    ((s.frame f).suspect.isSome = true →
      (s.frame f).state.isBound = true ∨ (s.frame f).state = .retired) ∧
    ((s.frame f).state = .retired → (s.frame f).suspect.isSome = true)

/-- R5: outside ACTIVE every slice is UNMAPPED. -/
abbrev phaseLaw (s : State) : Prop :=
  s.phase ≠ .active → ∀ i : SliceNo, (s.slice i).loc = .unmapped

/-- R47, R48, R53, R54, R66: a RUNNING channel's source is its slice's; an ARMED channel has cursor 0 and
is AFTER another channel, which is not IDLE unless the ARMED channel's own abort is still to follow; and
only ARMED channels are to follow. -/
abbrev chainLaw (s : State) : Prop :=
  (∀ c : ChanNo, ∀ m : Migration, ∀ f : FrameNo, (s.chan c).state = .running m f →
    (s.slice m.slice).loc.source = some f ∧ m.cursor ≤ Config.linesPerFrame) ∧
  (∀ c : ChanNo, ∀ m : Migration, (s.chan c).state = .armed m →
    m.cursor = 0 ∧ ∃ j : ChanNo, m.after = some j ∧ j ≠ c ∧
      (c ∉ s.broken → (s.chan j).state ≠ .idle)) ∧
  s.broken.Nodup ∧ ∀ c ∈ s.broken, ∃ m : Migration, (s.chan c).state = .armed m

/-- R75: at most 32 entries, none twice, each naming a slice that is MAPPED or MIGRATING. -/
abbrev poisonLaw (s : State) : Prop :=
  s.poison.length ≤ Config.poisonCapacity ∧ s.poison.Nodup ∧
    ∀ e ∈ s.poison, (s.slice e.1).loc ≠ .unmapped

/-- R22: the ABSENT frames are those the sampled presence codes leave out. -/
abbrev presenceLaw (s : State) : Prop :=
  ∀ f : FrameNo, (s.frame f).state = .absent ↔ presentIn s.presence f = false

/-- R120, R123: with power, the walk runs exactly in INVENTORY, its frame in test is the lowest
UNTESTED one, and with the walk DONE no frame is UNTESTED. -/
abbrev walkLaw (s : State) : Prop :=
  (s.powered = true → (s.walk.running = true ↔ s.phase = .inventory)) ∧
  (s.walk.running = s.walk.frame.isSome) ∧
  (∀ f : FrameNo, s.walk.frame = some f → (s.frame f).state = .untested) ∧
  ∀ g : FrameNo, (s.frame g).state = .untested → ∃ f : FrameNo, s.walk.frame = some f ∧ f ≤ g

/-- R160: the phase is IMPORTING exactly while an import session is open. -/
abbrev sessionLaw (s : State) : Prop := s.phase = .importing ↔ s.importS.isSome = true

/-- The laws that bind slices, frames, channels, queues and the poison list to each other. -/
structure MapLaws (s : State) : Prop where
  sliceFrame : sliceFrameLaw s
  sliceChan : sliceChanLaw s
  target : targetLaw s
  spare : spareLaw s
  retire : retireLaw s
  suspect : suspectLaw s
  phase : phaseLaw s
  chain : chainLaw s
  poison : poisonLaw s
  presence : presenceLaw s
  walk : walkLaw s
  session : sessionLaw s

/-! ## Claims and held writes (R95) -/

/-- R95: never two claims on one frame line. -/
abbrev claimsApart (s : State) : Prop :=
  ∀ o p : Owner, ∀ fl : FrameLine,
    (s.place o).claims fl = true → (s.place p).claims fl = true → o = p

/-- The writes held on a place (R95). -/
def Place.held : Place → List Initiator
  | .claimed _ h => h
  | _ => []

/-- The owner of the claim a transaction waits on (R88). -/
def TxnState.waitsOn : TxnState → Option Owner
  | .held _ o => some o
  | _ => none

/-- R88, R95: a transaction is HELD exactly while a claim present in the table lists it. -/
abbrev heldPresent (s : State) : Prop :=
  ∀ i : Initiator, ∀ o : Owner, (s.port i).txn.waitsOn = some o ↔ i ∈ (s.place o).held

/-- R96: a request waits only on a line that is not free for a claim, and stands in the order of
requests. -/
abbrev requestsWait (s : State) : Prop :=
  ∀ o : Owner, ∀ fl : FrameLine, (s.place o).requests fl = true →
    o ∈ s.reqOrder ∧ s.lineFree fl = false

/-- The laws of the claim table; with no scrub in flight the scrubber's place is EMPTY (R95, R96,
R107). -/
structure ClaimLaws (s : State) : Prop where
  apart : claimsApart s
  held : heldPresent s
  once : ∀ o : Owner, (s.place o).held.Nodup
  waits : requestsWait s
  scrub : s.scrub.stage = .none → s.place .scrubber = .empty

/-! ## Transactions and their module operations (R88) -/

/-- An initiator's module operations that are requested and not completed. -/
def State.liveOps (s : State) (i : Initiator) : List ModOp :=
  (List.finRange 4).flatMap fun k =>
    ((s.arb k).waiting ++ (s.arb k).port).filter fun op =>
      op.req == .dataPort i && op.standing == .live

/-- R88: an IDLE or HELD transaction has no module operation, and only writes are HELD; a STEERED one has
as many outstanding as its record says, one or two, one for a read, each its own act on its own line of
the frames it was steered to. -/
def TxnState.matchesOps (ops : List ModOp) : TxnState → Prop
  | .idle => ops = []
  | .held t _ => ops = [] ∧ t.op.isWrite = true
  | .steered t f g n =>
    ops.length = n ∧ 1 ≤ n ∧ n ≤ 2 ∧ (t.op.isWrite = false → n = 1) ∧
      ∀ op ∈ ops, op.act = t.op.act ∧ op.fl.line = t.line ∧ (op.fl.frame = f ∨ some op.fl.frame = g)

/-- R88 for every initiator. -/
def PortLaws (s : State) : Prop := ∀ i : Initiator, (s.port i).txn.matchesOps (s.liveOps i)

/-! ## Ranges and capacities -/

/-- R24, R137, R140, R144, R150, R168: counts, queues and the policy record stay in their ranges, and no
sticky flag stands in RESPONSE_READY's place. -/
structure RangeLaws (s : State) : Prop where
  counts : ∀ f : FrameNo, (s.frame f).corrected ≤ 255 ∧ (s.frame f).uncorrectable ≤ 255
  commands : s.cmdQ.length ≤ Config.commandCapacity
  responses : s.rspQ.length ≤ Config.responseCapacity
  threshold : 1 ≤ s.policy.threshold ∧ s.policy.threshold ≤ 255
  spareLow : s.policy.spareLow ≤ 63
  interval : s.policy.scrubInterval ≤ 65535
  reserve : s.policy.defaultReserve ≤ 16
  levelFlag : s.flags.getLsbD 0 = false

/-! ## Words for what a command does -/

/-- The command unit can take the word `w` of the given code (R141). -/
abbrev Takes (s : State) (code : Byte) (w : CmdWord) (rest : List CmdWord) : Prop :=
  s.powered = true ∧ s.cmdQ = w :: rest ∧ cmdCode w = code ∧
    s.rspQ.length < Config.responseCapacity

/-- The word at the head taken, and its response appended (R142, R143). -/
def State.answered (s : State) (w : CmdWord) (rest : List CmdWord) (st : Status)
    (r1 r2 r3 : Word32) : State :=
  { s with
    cmdQ := rest
    rspQ := s.rspQ ++
      [{ tag := cmdTag w, code := cmdCode w, status := st, rsp1 := r1, rsp2 := r2, rsp3 := r3 }] }

/-- The command is refused: nothing changes but its response, whose result words are zero (R148). -/
abbrev Refused (c : Instr) (s : State) (w : CmdWord) (rest : List CmdWord) (st : Status) : Prop :=
  exec c s = .next (s.answered w rest st 0 0 0)

/-- RSP3 of a response that reports the generation and no more (R181). -/
def genWord (g : BitVec 16) : Word32 := word2 g.toNat 0

/-- STAGED or ACTIVE, the phases most commands are taken in (R121). -/
abbrev inService (s : State) : Prop := s.phase = .staged ∨ s.phase = .active

/-- A flag's mask if the condition holds, else no flag. -/
def flagIf (b : Bool) (f : Flag) : BitVec 13 := if b then f.mask else 0

/-- The flags a removal sets that leaves `q` in the spare queue (R35). -/
def State.removalFlags (s : State) (q : List FrameNo) : BitVec 13 :=
  flagIf (decide (q.length < s.policy.spareLow)) .spareLow ||| flagIf q.isEmpty .spareEmpty

/-- A suspect BOUND frame. -/
abbrev State.suspectBound (s : State) (f : FrameNo) : Prop :=
  (s.frame f).state.isBound = true ∧ (s.frame f).suspect.isSome = true

/-- The retire queue once frame `f` is RETIRED: without it, and with the lowest-numbered suspect BOUND
frame that was waiting outside, if `f` was queued (R37, R38). -/
def State.retireQWithout (s : State) (f : FrameNo) : List FrameNo :=
  if f ∈ s.retireQ then
    s.retireQ.erase f ++
      ((List.finRange 64).find? fun g =>
        decide (g ≠ f ∧ s.suspectBound g ∧ g ∉ s.retireQ)).toList
  else s.retireQ

/-- Channels ARMED behind a channel and still waiting, directly or through one another (R70). -/
inductive State.Behind (s : State) (c : ChanNo) : ChanNo → Prop where
  | direct (d : ChanNo) : d ∈ s.waitersOn c → State.Behind s c d
  | through (d e : ChanNo) : State.Behind s c d → e ∈ s.waitersOn d → State.Behind s c e

/-- Power events: the power-on reset, the fall of power-good. -/
def isPowerEvent : Instr → Bool
  | .powerOnReset _ => true
  | .powerGoodFall => true
  | _ => false

/-- The tables an abort leaves before its claim is given up (R63 to R66): the slice on its source, the
target as `target'`, the channel IDLE with the cause, the channels ARMED after it to follow, and the line
copy abandoned: the channel's operations not granted withdrawn, its granted ones kept to complete without
their work. -/
def State.abortTables (s : State) (c : ChanNo) (m : Migration) (source : FrameNo) (target' : FrameRec)
    (cause : LastOutcome) : State :=
  { s with
    slices := s.slices.set m.slice { s.slice m.slice with loc := .mapped source }
    frames := s.frames.set m.target target'
    spareQ := if target'.state = .spare then s.spareQ ++ [m.target] else s.spareQ
    chans := s.chans.set c { state := .idle, last := cause }
    broken := s.broken.erase c ++ s.waitersOn c
    generation := s.generation + 1
    arbs := s.arbs.map fun a =>
      { waiting := a.waiting.filter fun op => decide (op.req ≠ .channel c)
        lastChan := a.lastChan
        port := a.port.map fun op =>
          if op.req = .channel c ∧ op.standing = .live then { op with standing := .aborted }
          else op } }

/-- What an abort leaves (R63 to R66), in a state with the part's laws: `State.abortTables` with the
channel's place given up by `State.releasePlace`, so that every write held on its claim is taken again. The
command's own answer and the flags are stated beside it; nothing else changes. The one order of the channels
still to abort (`broken`) is the model's reading of R66, notes/assumptions/6.md. -/
def AbortLeaves (s t : State) (c : ChanNo) (m : Migration) (source : FrameNo) (target' : FrameRec)
    (cause : LastOutcome) : Prop :=
  t = { ({ s.abortTables c m source target' cause with
            flags := t.flags, cmdQ := t.cmdQ }.releasePlace (.channel c)) with
        rspQ := t.rspQ } ∧
  t = { s.abortTables c m source target' cause with
        ports := t.ports, places := t.places, reqOrder := t.reqOrder, arbs := t.arbs
        scrub := t.scrub, flags := t.flags, cmdQ := t.cmdQ, rspQ := t.rspQ } ∧
  t.place (.channel c) = .empty ∧
  (∀ i : Initiator, (t.port i).txn.waitsOn ≠ some (.channel c)) ∧
  (∀ i : Initiator, (s.port i).txn.waitsOn ≠ some (.channel c) → t.port i = s.port i) ∧
  ∀ k : Socket,
    (∀ op ∈ (t.arb k).waiting, op.req ≠ .channel c) ∧
    ∀ op ∈ (t.arb k).port, op.req = .channel c → op.standing ≠ .live

/-- One command of R121's table: its row, its code, the phases it is taken in, and whether the map lock
stops it (R12). -/
structure CommandRow where
  instr : Instr
  code : Byte
  phases : List Phase
  lockable : Bool

/-- R121's table of phases, with R12's six commands and R179's codes. -/
def commandTable : List CommandRow :=
  let all := [Phase.inventory, .staged, .importing, .active]
  [⟨.querySlice, 0x13, all, false⟩, ⟨.queryFrame, 0x20, all, false⟩,
   ⟨.queryChannel, 0x32, all, false⟩, ⟨.queryPoison, 0x41, all, false⟩,
   ⟨.queryPart, 0x51, all, false⟩, ⟨.setPolicy, 0x50, all, false⟩,
   ⟨.lockMap, 0x14, [.staged, .importing, .active], false⟩,
   ⟨.clearCounts, 0x24, [.staged, .importing, .active], false⟩,
   ⟨.map, 0x10, [.staged, .active], true⟩, ⟨.unmap, 0x11, [.staged, .active], true⟩,
   ⟨.setAttr, 0x12, [.staged, .active], true⟩, ⟨.retire, 0x23, [.staged, .active], false⟩,
   ⟨.clearPoison, 0x40, [.staged, .active], true⟩,
   ⟨.adoptDefault, 0x52, [.staged], true⟩, ⟨.importBegin, 0x60, [.staged], true⟩,
   ⟨.importRecord, 0x61, [.importing], false⟩, ⟨.importEnd, 0x62, [.importing], false⟩,
   ⟨.importAbort, 0x63, [.importing], false⟩,
   ⟨.exportBegin, 0x68, [.staged, .active], false⟩,
   ⟨.exportNext, 0x69, [.staged, .active], false⟩,
   ⟨.addSpare, 0x21, [.active], false⟩, ⟨.withdrawSpare, 0x22, [.active], false⟩,
   ⟨.migrate, 0x30, [.active], false⟩, ⟨.cancel, 0x31, [.active], false⟩]

/-- The eight bytes' fields are in the ranges R182 gives for their kind (R155). -/
def imageFieldsInRange (img : Word64) : Bool :=
  let b := recByte img
  match b 0 with
  | 1 => b 1 == 1 && b 2 ≤ 64
  | 2 => b 1 ≤ 63 && [0, 2, 3, 4, 6].contains (b 2) && (b 3 ≤ 47 || b 3 == 0xFF) &&
      (b 4 ≤ 63 || b 4 == 0xFF) && b 5 ≤ 5
  | 3 => b 1 ≤ 47 && b 2 ≤ 1 && b 3 ≤ 1 && b 4 ≤ 15
  | 4 => true
  | _ => false

/-- The record's kind and number are those R154 gives the index. -/
def imageRecordAt (img : Word64) (n : Nat) : Bool :=
  let b := recByte img
  (b 0 == 1 && n == 0) || (b 0 == 2 && n == b 1 + 1) || (b 0 == 3 && n == b 1 + 65) ||
    (b 0 == 4 && n == 113)

/-- A frame record of an image is named against one of the conditions of R164's table on frame records:
a bound slice without BOUND or the reverse, a spare position without SPARE or the reverse, RETIRED and not
suspect, ABSENT and suspect or with a count, BOUND to a slice named twice, or SPARE at a position that is
not below the number of SPARE records or is held by another. -/
abbrev ImportSession.frameNamed (e : ImportSession) (f : FrameNo) : Prop :=
  ¬((e.frame f).bound ≠ none ↔ (e.frame f).state = .bound) ∨
  ¬((e.frame f).sparePos ≠ none ↔ (e.frame f).state = .spare) ∨
  (e.frame f).state = .retired ∧ (e.frame f).suspect = none ∨
  (e.frame f).state = .absent ∧
    ((e.frame f).suspect ≠ none ∨ (e.frame f).corrected ≠ 0 ∨ (e.frame f).uncorrectable ≠ 0) ∨
  (e.frame f).state = .bound ∧ (e.frame f).bound ≠ none ∧
    (∃ g : FrameNo, g ≠ f ∧ (e.frame g).state = .bound ∧ (e.frame g).bound = (e.frame f).bound) ∨
  (e.frame f).state = .spare ∧
    ((∃ p : Fin 64, (e.frame f).sparePos = some p ∧
        ((List.finRange 64).filter fun g => decide ((e.frame g).state = .spare)).length ≤ p.val) ∨
      (e.frame f).sparePos ≠ none ∧
      ∃ g : FrameNo, g ≠ f ∧ (e.frame g).state = .spare ∧
        (e.frame g).sparePos = (e.frame f).sparePos)

/-- The record of index `n` is named against a failed condition of R164: the header whose present-frame
count is not the number of frame records not ABSENT, a frame record, or a slice record whose mapped flag
disagrees with the BOUND frame records. -/
abbrev ImportSession.named (e : ImportSession) (n : Nat) : Prop :=
  n = 0 ∧ (e.header.map (·.present)).getD 0 ≠
      ((List.finRange 64).filter fun f => decide ((e.frame f).state ≠ .absent)).length ∨
  (∃ f : FrameNo, n = f.val + 1 ∧ e.frameNamed f) ∨
  ∃ i : SliceNo, n = i.val + 65 ∧ ¬((e.slice i).mapped = true ↔
    ∃ f : FrameNo, (e.frame f).state = .bound ∧ (e.frame f).bound = some i)

/-- The record R166 gives a frame of live state FREE or RETIRED at an import commit. -/
def CommittedFrame (live after : FrameRec) (img : ImgFrame) : Prop :=
  after.corrected = min 255 (live.corrected + img.corrected) ∧
  after.uncorrectable = min 255 (live.uncorrectable + img.uncorrectable) ∧
  (live.state = .retired → after.state = .retired ∧ after.suspect = live.suspect) ∧
  (live.state = .free →
    (img.state = .absent → after.state = .free ∧ after.suspect = none) ∧
    (img.state = .free → img.suspect = none → after.state = .free ∧ after.suspect = none) ∧
    (img.state = .spare → img.suspect = none → after.state = .spare ∧ after.suspect = none) ∧
    (∀ c, img.state = .free ∨ img.state = .spare ∨ img.state = .retired →
      img.suspect = some c → after.state = .retired ∧
        after.suspect = some (if c = .inventory then .imported else c)) ∧
    ∀ i, img.state = .bound → img.bound = some i → after.state = .bound i ∧
      (img.suspect = none → after.suspect = none) ∧
      ∀ c, img.suspect = some c →
        after.suspect = some (if c = .inventory then .imported else c))

/-- An access at the aperture that is served: 32 bits, aligned, from initiator 0 (R177). -/
def servedBy0 : BusAccess := { initiator := 0, wide := true, aligned := true }

/-- The checks of R89 pass for a transaction on line `l` of slice `sl`. -/
abbrev passesChecks (s : State) (i : Initiator) (write lineWrite : Bool) (sl : SliceNo) (l : LineNo) :
    Prop :=
  (s.slice sl).domain.getLsbD i.val = true ∧ (write = true → (s.slice sl).protect = false) ∧
    (lineWrite = false → (sl, l) ∉ s.poison)

/-- The state with the first granted operation of a socket completed, a write having landed (R99). -/
def State.landed (s : State) (k : Socket) (op : ModOp) (rest : List ModOp) : State :=
  { s with
    arbs := s.arbs.set k { s.arb k with port := rest }
    modules := match op.act with
      | .read => s.modules
      | .writeLine d => storeLine s.modules (moduleKey op.fl) d
      | .writeWord w d =>
        storeLine s.modules (moduleKey op.fl) ((s.contents op.fl).set w d) }

/-- The record of a frame with an outcome counted (R24). -/
def FrameRec.counted (r : FrameRec) : ReadOutcome → FrameRec
  | .clean => r
  | .corrected => { r with corrected := min 255 (r.corrected + 1) }
  | .uncorrectable => { r with uncorrectable := min 255 (r.uncorrectable + 1) }

/-- The operation between two parts of a waiting list is eligible: none before it is on its line
(R105). -/
def eligibleAfter (before : List ModOp) (op : ModOp) : Prop := ∀ x ∈ before, x.fl ≠ op.fl

/-- The position one line on from a scrub that ends, with the stage NONE: the next line, or line 0 of the
next frame, or (0, 0) with the pass count up by one after frame 63 (R115). -/
def MovesOn (p q : Scrubber) : Prop :=
  q.stage = .none ∧ q.expiryPending = p.expiryPending ∧ q.timer = p.timer ∧
  (p.line.val < 16383 ∧ q.line.val = p.line.val + 1 ∧ q.frame = p.frame ∧
      q.passCount = p.passCount ∨
    p.line.val = 16383 ∧ p.frame.val < 63 ∧ q.line = 0 ∧ q.frame.val = p.frame.val + 1 ∧
      q.passCount = p.passCount ∨
    p.line.val = 16383 ∧ p.frame.val = 63 ∧ q.line = 0 ∧ q.frame = 0 ∧
      q.passCount = p.passCount + 1)

/-- A line free for a claim with no request before it: its frame line under no claim, no write that R96
counts outstanding on it, and no place REQUESTED on it. -/
abbrev freeForClaim (s : State) (fl : FrameLine) : Prop :=
  s.lineFree fl = true ∧ ∀ o : Owner, (s.place o).requests fl = false

/-- A frame's record as an image holds it (R159). -/
def State.renderedFrame (s : State) (f : FrameNo) : ImgFrame :=
  let r := s.frame f
  match r.state with
  | .absent | .untested =>
    { state := .absent, bound := none, sparePos := none, suspect := none
      corrected := 0, uncorrectable := 0 }
  | .free =>
    { state := .free, bound := none, sparePos := none, suspect := r.suspect
      corrected := r.corrected, uncorrectable := r.uncorrectable }
  | .target =>
    { state := .free, bound := none, sparePos := none, suspect := none
      corrected := r.corrected, uncorrectable := r.uncorrectable }
  | .spare =>
    { state := .spare, bound := none, sparePos := some (Fin.ofNat 64 (s.spareQ.idxOf f))
      suspect := r.suspect, corrected := r.corrected, uncorrectable := r.uncorrectable }
  | .bound i =>
    { state := .bound, bound := some i, sparePos := none, suspect := r.suspect
      corrected := r.corrected, uncorrectable := r.uncorrectable }
  | .retired =>
    { state := .retired, bound := none, sparePos := none, suspect := r.suspect
      corrected := r.corrected, uncorrectable := r.uncorrectable }

/-- A slice's record as an image holds it (R159). -/
def State.renderedSlice (s : State) (i : SliceNo) : ImgSlice :=
  { mapped := decide ((s.slice i).loc ≠ .unmapped), protect := (s.slice i).protect
    domain := (s.slice i).domain }

end Sys2Proof.Machine
end

