-- ==== Sys2Proof/Certificates/Slice0/Obligations.lean ====
section
/-! DEFINITION. The statements for the provers. Each docstring names the rules of the spec that the
statement formalises, or the log entry whose choice it states. -/

open Sys2Proof Sys2Proof.Machine

/-! ## The commands of the map unit -/

/-- R13, R14: MAP's checks in order, and what it does with the frame it chooses. -/
def Obligations.MapBindsAFreeOrSpareFrame : Prop :=
  ∀ (s : State) (w : CmdWord) (rest : List CmdWord), Takes s 0x10 w rest →
    (¬(byteOf w.cmd1 0 ≤ 47 ∧ (byteOf w.cmd1 1 ≤ 63 ∨ byteOf w.cmd1 1 = 0xFF)) →
      Refused .map s w rest .badArg) ∧
    ∀ i : SliceNo, byteOf w.cmd1 0 = i.val →
      (byteOf w.cmd1 1 ≤ 63 ∨ byteOf w.cmd1 1 = 0xFF) →
      (¬inService s → Refused .map s w rest .wrongPhase) ∧
      (inService s → s.locked = true → Refused .map s w rest .locked) ∧
      (inService s → s.locked = false →
        (∀ f c, (s.slice i).loc = .migrating f c → Refused .map s w rest .busy) ∧
        (∀ f, (s.slice i).loc = .mapped f → Refused .map s w rest .wrongState) ∧
        ((s.slice i).loc = .unmapped →
          (∀ f : FrameNo, byteOf w.cmd1 1 = f.val → (s.frame f).state ≠ .free →
            (s.frame f).state ≠ .spare → Refused .map s w rest .wrongState) ∧
          (byteOf w.cmd1 1 = 0xFF → (∀ f : FrameNo, (s.frame f).state ≠ .free) →
            Refused .map s w rest .noFrame) ∧
          ∀ f : FrameNo, ∀ q : List FrameNo,
            (byteOf w.cmd1 1 = f.val ∨ byteOf w.cmd1 1 = 0xFF ∧ (s.frame f).state = .free ∧
              ∀ g : FrameNo, g < f → (s.frame g).state ≠ .free) →
            ((s.frame f).state = .free ∧ q = s.spareQ ∨
              (s.frame f).state = .spare ∧ q = s.spareQ.erase f) →
            exec .map s = .next
              { s.answered w rest .ok (word4 i.val f.val 0 0) 0 (genWord (s.generation + 1)) with
                slices := s.slices.set i
                  { loc := .mapped f, protect := decide (byteOf w.cmd2 0 % 2 = 1)
                    domain := BitVec.ofNat 4 (byteOf w.cmd2 1) }
                frames := s.frames.set f { s.frame f with state := .bound i }
                spareQ := q
                flags := s.flags |||
                  (if (s.frame f).state = .spare then s.removalFlags q else 0)
                phase := .active
                generation := s.generation + 1 }))

/-- R16, R17: UNMAP's checks in order; the frame it releases becomes FREE or, suspect, RETIRED, and the
slice's poison entries go. -/
def Obligations.UnmapReleasesTheSourceFrame : Prop :=
  ∀ (s : State) (w : CmdWord) (rest : List CmdWord), Takes s 0x11 w rest →
    (47 < byteOf w.cmd1 0 → Refused .unmap s w rest .badArg) ∧
    ∀ i : SliceNo, byteOf w.cmd1 0 = i.val →
      (¬inService s → Refused .unmap s w rest .wrongPhase) ∧
      (inService s → s.locked = true → Refused .unmap s w rest .locked) ∧
      (inService s → s.locked = false →
        (∀ f c, (s.slice i).loc = .migrating f c → Refused .unmap s w rest .busy) ∧
        ((s.slice i).loc = .unmapped → Refused .unmap s w rest .wrongState) ∧
        ∀ f, (s.slice i).loc = .mapped f →
          ((s.frame f).suspect = none →
            exec .unmap s = .next
              { s.answered w rest .ok
                  (word4 f.val 2 (s.poison.countP fun e => e.1 == i) 0) 0 0 with
                slices := s.slices.set i { s.slice i with loc := .unmapped }
                frames := s.frames.set f { s.frame f with state := .free }
                poison := s.poison.filter fun e => e.1 != i
                generation := s.generation + 1 }) ∧
          ∀ cause, (s.frame f).suspect = some cause →
            exec .unmap s = .next
              { s.answered w rest .ok
                  (word4 f.val 6 (s.poison.countP fun e => e.1 == i) 0) 0 0 with
                slices := s.slices.set i { s.slice i with loc := .unmapped }
                frames := s.frames.set f { s.frame f with state := .retired }
                retireQ := s.retireQWithout f
                poison := s.poison.filter fun e => e.1 != i
                flags := s.flags ||| Flag.frameRetired.mask
                generation := s.generation + 1 })

/-- R19, R11: SET_ATTR replaces write protect and domain set in any slice state, and advances the generation
only if one of them changes; LOCK_MAP is refused in INVENTORY only, sets the lock or leaves it set, and
moves nothing else. -/
def Obligations.AttributesAndTheMapLockAreSet : Prop :=
  (∀ (s : State) (w : CmdWord) (rest : List CmdWord), Takes s 0x12 w rest →
     (47 < byteOf w.cmd1 0 → Refused .setAttr s w rest .badArg) ∧
     ∀ i : SliceNo, byteOf w.cmd1 0 = i.val →
       (¬inService s → Refused .setAttr s w rest .wrongPhase) ∧
       (inService s → s.locked = true → Refused .setAttr s w rest .locked) ∧
       (inService s → s.locked = false → ∀ (p : Bool) (d : DomainSet) (g : BitVec 16),
         p = decide (byteOf w.cmd2 0 % 2 = 1) → d = BitVec.ofNat 4 (byteOf w.cmd2 1) →
         (((s.slice i).protect = p ∧ (s.slice i).domain = d) ∧ g = s.generation ∨
           ¬((s.slice i).protect = p ∧ (s.slice i).domain = d) ∧ g = s.generation + 1) →
         exec .setAttr s = .next
           { s.answered w rest .ok (word4 i.val 0 p.toNat d.toNat) 0 (genWord g) with
             slices := s.slices.set i { s.slice i with protect := p, domain := d }
             generation := g })) ∧
  ∀ (s : State) (w : CmdWord) (rest : List CmdWord), Takes s 0x14 w rest →
    (s.phase = .inventory → Refused .lockMap s w rest .wrongPhase) ∧
    (s.phase ≠ .inventory →
      exec .lockMap s = .next { s.answered w rest .ok (word4 1 0 0 0) 0 0 with locked := true })

/-! ## The queries -/

/-- R21, R40, R71, R86, R152, R153: the five queries report the record, entry or page they name as it stands,
in every phase and under the lock, and change nothing. That the bytes of RSP2 stand in turn for QUERY_SLICE and
QUERY_FRAME is the model's reading of R181 (notes/assumptions/27.md); that bits 5:4 of QUERY_CHANNEL's flags
byte read 0 for a channel that starts NOW is the model's choice (notes/assumptions/29.md). -/
def Obligations.QueriesReportWhatStands : Prop :=
  (∀ (s : State) (w : CmdWord) (rest : List CmdWord),
     (Takes s 0x13 w rest →
       (47 < byteOf w.cmd1 0 → Refused .querySlice s w rest .badArg) ∧
       ∀ i : SliceNo, byteOf w.cmd1 0 = i.val → ∀ (st src ch : Nat),
         ((s.slice i).loc = .unmapped ∧ st = 0 ∧ src = 0xFF ∧ ch = 0xFF ∨
           (∃ f, (s.slice i).loc = .mapped f ∧ st = 1 ∧ src = f.val ∧ ch = 0xFF) ∨
           ∃ f c, (s.slice i).loc = .migrating f c ∧ st = 2 ∧ src = f.val ∧ ch = c.val) →
         exec .querySlice s = .next (s.answered w rest .ok
           (word4 st src (s.slice i).protect.toNat (s.slice i).domain.toNat)
           (word4 ch (s.poison.countP fun e => e.1 == i) 0 0) (genWord s.generation))) ∧
     (Takes s 0x20 w rest →
       (63 < byteOf w.cmd1 1 → Refused .queryFrame s w rest .badArg) ∧
       ∀ f : FrameNo, byteOf w.cmd1 1 = f.val → ∀ (slice spare retire chan : Nat),
         ((∃ i, (s.frame f).state = .bound i ∧ slice = i.val) ∨
           (s.frame f).state.isBound = false ∧ slice = 0xFF) →
         (f ∈ s.spareQ ∧ spare = s.spareQ.idxOf f ∨ f ∉ s.spareQ ∧ spare = 0xFF) →
         (f ∈ s.retireQ ∧ retire = s.retireQ.idxOf f ∨
           f ∉ s.retireQ ∧ s.suspectBound f ∧ retire = 0xFE ∨
           f ∉ s.retireQ ∧ ¬s.suspectBound f ∧ retire = 0xFF) →
         ((∃ c, (s.frame f).state = .target ∧ s.targetChan f = some c ∧ chan = c.val) ∨
           ((s.frame f).state ≠ .target ∨ s.targetChan f = none) ∧ chan = 0xFF) →
         exec .queryFrame s = .next (s.answered w rest .ok
           (word4 (s.frame f).state.code slice (causeCode (s.frame f).suspect)
             (s.frame f).corrected)
           (word4 (s.frame f).uncorrectable spare retire chan) (genWord s.generation))) ∧
     (Takes s 0x32 w rest →
       (3 < byteOf w.cmd1 2 → Refused .queryChannel s w rest .badArg) ∧
       ∀ c : ChanNo, byteOf w.cmd1 2 = c.val →
         ((s.chan c).state = .idle →
           exec .queryChannel s = .next (s.answered w rest .ok
             (word4 0 (s.chan c).last.code 0xFF 0xFF) 0 (word2 s.generation.toNat 0xFF))) ∧
         ∀ (m : Migration) (st src after : Nat), (s.chan c).state.migration = some m →
           ((s.chan c).state = .armed m ∧ st = 1 ∧ src = 0xFF ∨
             ∃ f, (s.chan c).state = .running m f ∧ st = 2 ∧ src = f.val) →
           (m.after = none ∧ after = 0 ∨ ∃ j, m.after = some j ∧ after = 8 + 16 * j.val) →
           exec .queryChannel s = .next (s.answered w rest .ok
             (word4 st (s.chan c).last.code m.slice.val m.target.val)
             (word2 m.cursor m.poisoned)
             (word2 s.generation.toNat
               (src + 256 * (m.origin.code + 2 * m.by_.code +
                 4 * (if s.claimedLine c = none then 0 else 1) + after)))))) ∧
  ∀ (s : State) (w : CmdWord) (rest : List CmdWord),
    (Takes s 0x41 w rest →
      (31 < byteOf w.cmd1 0 → Refused .queryPoison s w rest .badArg) ∧
      (∀ i l, byteOf w.cmd1 0 ≤ 31 → s.poison[byteOf w.cmd1 0]? = some (i, l) →
        exec .queryPoison s = .next (s.answered w rest .ok
          (word4 i.val 0 s.poison.length 0) (word2 l.val 0) (genWord s.generation))) ∧
      (byteOf w.cmd1 0 ≤ 31 → s.poison.length ≤ byteOf w.cmd1 0 →
        exec .queryPoison s = .next (s.answered w rest .ok
          (word4 0xFF 0 s.poison.length 0) 0 (genWord s.generation)))) ∧
    (Takes s 0x51 w rest →
      (1 < byteOf w.cmd1 0 → Refused .queryPart s w rest .badArg) ∧
      (byteOf w.cmd1 0 = 0 →
        exec .queryPart s = .next (s.answered w rest .ok
          (word4 s.phase.code s.locked.toNat s.spareQ.length s.retireQ.length)
          (word2 (s.poison.length + 256 * ((s.chan 0).state.code + 4 * (s.chan 1).state.code +
            16 * (s.chan 2).state.code + 64 * (s.chan 3).state.code)) s.scrub.passCount.toNat)
          (genWord s.generation))) ∧
      (byteOf w.cmd1 0 = 1 →
        exec .queryPart s = .next (s.answered w rest .ok
          (word4 s.policy.autoRetire.toNat s.policy.threshold s.policy.spareLow
            s.policy.defaultReserve)
          (word2 s.policy.scrubInterval 0) (genWord s.generation))))

/-! ## The commands of the frame unit -/

/-- R41, R42: ADD_SPARE's and WITHDRAW_SPARE's checks in order; a FREE frame becomes SPARE at the tail of the
queue; a SPARE frame leaves its position and becomes FREE, with the removal's flags. -/
def Obligations.SparesJoinAndLeaveByCommand : Prop :=
  (∀ (s : State) (w : CmdWord) (rest : List CmdWord), Takes s 0x21 w rest →
     (63 < byteOf w.cmd1 1 → Refused .addSpare s w rest .badArg) ∧
     ∀ f : FrameNo, byteOf w.cmd1 1 = f.val →
       (s.phase ≠ .active → Refused .addSpare s w rest .wrongPhase) ∧
       (s.phase = .active → (s.frame f).state ≠ .free → Refused .addSpare s w rest .wrongState) ∧
       (s.phase = .active → (s.frame f).state = .free → f ∉ s.spareQ →
         exec .addSpare s = .next
           { s.answered w rest .ok (word4 f.val s.spareQ.length (s.spareQ.length + 1) 0) 0
               (genWord (s.generation + 1)) with
             frames := s.frames.set f { s.frame f with state := .spare }
             spareQ := s.spareQ ++ [f]
             generation := s.generation + 1 })) ∧
  ∀ (s : State) (w : CmdWord) (rest : List CmdWord), Takes s 0x22 w rest →
    (63 < byteOf w.cmd1 1 → Refused .withdrawSpare s w rest .badArg) ∧
    ∀ f : FrameNo, byteOf w.cmd1 1 = f.val →
      (s.phase ≠ .active → Refused .withdrawSpare s w rest .wrongPhase) ∧
      (s.phase = .active → (s.frame f).state ≠ .spare →
        Refused .withdrawSpare s w rest .wrongState) ∧
      (s.phase = .active → (s.frame f).state = .spare →
        exec .withdrawSpare s = .next
          { s.answered w rest .ok (word4 f.val 0 (s.spareQ.erase f).length 0) 0
              (genWord (s.generation + 1)) with
            frames := s.frames.set f { s.frame f with state := .free }
            spareQ := s.spareQ.erase f
            flags := s.flags ||| s.removalFlags (s.spareQ.erase f)
            generation := s.generation + 1 })

/-- R43: RETIRE of a frame that no migration has as its target, by the frame's state. The channel's byte of
RSP2 is the model's reading of R181 (notes/assumptions/27.md). -/
def Obligations.RetireActsByTheFrameState : Prop :=
  ∀ (s : State) (w : CmdWord) (rest : List CmdWord), Takes s 0x23 w rest →
    (63 < byteOf w.cmd1 1 → Refused .retire s w rest .badArg) ∧
    ∀ f : FrameNo, byteOf w.cmd1 1 = f.val →
      (¬inService s → Refused .retire s w rest .wrongPhase) ∧
      (inService s →
        ((s.frame f).state = .absent ∨ (s.frame f).state = .untested ∨
            (s.frame f).state = .retired → Refused .retire s w rest .wrongState) ∧
        (∀ q : List FrameNo, f ∉ s.retireQ →
          ((s.frame f).state = .free ∧ q = s.spareQ ∨
            (s.frame f).state = .spare ∧ q = s.spareQ.erase f) →
          exec .retire s = .next
            { s.answered w rest .ok (word4 f.val 6 0xFF 4) (word4 0xFF 0 0 0)
                (genWord (s.generation + 1)) with
              frames := s.frames.set f
                { s.frame f with state := .retired, suspect := some .software }
              spareQ := q
              flags := s.flags ||| Flag.frameSuspect.mask ||| Flag.frameRetired.mask |||
                (if (s.frame f).state = .spare then s.removalFlags q else 0)
              generation := s.generation + 1 }) ∧
        (∀ i, ∀ q : List FrameNo, ∀ pos : Nat, (s.frame f).state = .bound i →
          (s.frame f).suspect = none → f ∉ s.retireQ →
          (s.retireQ.length < 8 ∧ q = s.retireQ ++ [f] ∧ pos = s.retireQ.length ∨
            8 ≤ s.retireQ.length ∧ q = s.retireQ ∧ pos = 0xFE) →
          exec .retire s = .next
            { s.answered w rest .ok (word4 f.val 4 pos 4) (word4 0xFF 0 0 0)
                (genWord (s.generation + 1)) with
              frames := s.frames.set f { s.frame f with suspect := some .software }
              retireQ := q
              flags := s.flags ||| Flag.frameSuspect.mask
              generation := s.generation + 1 }) ∧
        ∀ i cause, ∀ pos : Nat, (s.frame f).state = .bound i → (s.frame f).suspect = some cause →
          (f ∈ s.retireQ ∧ pos = s.retireQ.idxOf f ∨ f ∉ s.retireQ ∧ pos = 0xFE) →
          exec .retire s = .next (s.answered w rest .ok
            (word4 f.val 4 pos (causeCode (some cause))) (word4 0xFF 0 0 0)
            (genWord s.generation)))

/-- R44: CLEAR_COUNTS sets both counts of any present frame to 0 and leaves the rest of its record, its
places in the queues and the generation as they are. -/
def Obligations.ClearCountsZeroesBothCounts : Prop :=
  ∀ (s : State) (w : CmdWord) (rest : List CmdWord), Takes s 0x24 w rest →
    (63 < byteOf w.cmd1 1 → Refused .clearCounts s w rest .badArg) ∧
    ∀ f : FrameNo, byteOf w.cmd1 1 = f.val →
      (s.phase = .inventory → Refused .clearCounts s w rest .wrongPhase) ∧
      (s.phase ≠ .inventory → (s.frame f).state = .absent →
        Refused .clearCounts s w rest .wrongState) ∧
      (s.phase ≠ .inventory → (s.frame f).state ≠ .absent →
        exec .clearCounts s = .next
          { s.answered w rest .ok (word4 f.val 0 0 0) 0 (genWord s.generation) with
            frames := s.frames.set f { s.frame f with corrected := 0, uncorrectable := 0 } })

/-! ## The commands of the migration engine -/

/-- R50, R51, R52: MIGRATE's checks in order, the channel and target it chooses, and the migration it sets
up. -/
def Obligations.MigrateSetsUpAMigration : Prop :=
  ∀ (s : State) (w : CmdWord) (rest : List CmdWord), Takes s 0x30 w rest →
    (¬(byteOf w.cmd1 0 ≤ 47 ∧ (byteOf w.cmd1 1 ≤ 63 ∨ byteOf w.cmd1 1 = 0xFE) ∧
        (byteOf w.cmd1 2 ≤ 3 ∨ byteOf w.cmd1 2 = 0xFF) ∧
        (byteOf w.cmd1 3 = 0 ∨ 0x80 ≤ byteOf w.cmd1 3 ∧ byteOf w.cmd1 3 ≤ 0x83)) →
      Refused .migrate s w rest .badArg) ∧
    ∀ (i : SliceNo) (target : Option FrameNo) (chan after : Option ChanNo),
      byteOf w.cmd1 0 = i.val →
      byteOf w.cmd1 1 = (target.map Fin.val).getD 0xFE →
      byteOf w.cmd1 2 = (chan.map Fin.val).getD 0xFF →
      byteOf w.cmd1 3 = (after.map fun j => 0x80 + j.val).getD 0 →
      (s.phase ≠ .active → Refused .migrate s w rest .wrongPhase) ∧
      (s.phase = .active →
        (∀ f c, (s.slice i).loc = .migrating f c → Refused .migrate s w rest .busy) ∧
        ((s.slice i).loc = .unmapped → Refused .migrate s w rest .wrongState) ∧
        ∀ source, (s.slice i).loc = .mapped source →
          (∀ c, chan = some c → (s.chan c).state ≠ .idle → Refused .migrate s w rest .busy) ∧
          (chan = none → (∀ c, (s.chan c).state ≠ .idle) →
            Refused .migrate s w rest .noChannel) ∧
          ∀ c : ChanNo, (s.chan c).state = .idle →
            (chan = some c ∨ chan = none ∧ ∀ d : ChanNo, d < c → (s.chan d).state ≠ .idle) →
            (∀ f, target = some f → (s.frame f).state ≠ .free → (s.frame f).state ≠ .spare →
              Refused .migrate s w rest .wrongState) ∧
            (target = none → s.spareQ = [] → Refused .migrate s w rest .noFrame) ∧
            ∀ f : FrameNo, ∀ q : List FrameNo, ∀ o : Origin,
              (target = some f ∨ target = none ∧ s.spareQ.head? = some f) →
              ((s.frame f).state = .free ∧ o = .free ∧ q = s.spareQ ∨
                (s.frame f).state = .spare ∧ o = .spare ∧ q = s.spareQ.erase f) →
              (∀ j, after = some j → (s.chan j).state = .idle ∨ j = c →
                Refused .migrate s w rest .wrongState) ∧
              ((∀ j, after = some j → (s.chan j).state ≠ .idle ∧ j ≠ c) →
                ∀ m : Migration, ∀ st : ChanState,
                m = { slice := i, target := f, origin := o, after := after, by_ := .command
                      cursor := 0, poisoned := 0 } →
                (after = none ∧ st = .running m source ∨ after ≠ none ∧ st = .armed m) →
                exec .migrate s = .next
                  { s.answered w rest .ok (word4 c.val f.val o.code st.code) 0
                      (genWord (s.generation + 1)) with
                    slices := s.slices.set i { s.slice i with loc := .migrating source c }
                    frames := s.frames.set f { s.frame f with state := .target }
                    spareQ := q
                    flags := s.flags ||| (if o = .spare then s.removalFlags q else 0)
                    chans := s.chans.set c { s.chan c with state := st }
                    generation := s.generation + 1 }))

/-- R63, R64, R65, R66, R70: CANCEL's checks, and the abort it makes of what the channel holds. The one
order of the channels still to abort that `AbortLeaves` gives is the model's reading, notes/assumptions/6.md. -/
def Obligations.CancelAbortsTheChannel : Prop :=
  ∀ (s : State) (w : CmdWord) (rest : List CmdWord), Takes s 0x31 w rest →
    (3 < byteOf w.cmd1 2 → Refused .cancel s w rest .badArg) ∧
    ∀ c : ChanNo, byteOf w.cmd1 2 = c.val →
      (s.phase ≠ .active → Refused .cancel s w rest .wrongPhase) ∧
      (s.phase = .active → (s.chan c).state = .idle → Refused .cancel s w rest .wrongState) ∧
      (MapLaws s → ClaimLaws s → s.phase = .active → ∀ (m : Migration) (source : FrameNo)
        (state' : FrameState) (behind : List ChanNo),
        (s.chan c).state.migration = some m → (s.slice m.slice).loc = .migrating source c →
        (m.origin = .free ∧ state' = .free ∨ m.origin = .spare ∧ state' = .spare) →
        behind.Nodup → (∀ d, d ∈ behind ↔ s.Behind c d ∧ d ≠ c) →
        ∃ t, exec .cancel s = .next t ∧
          AbortLeaves s t c m source { s.frame m.target with state := state' } .cancelled ∧
          t.flags = s.flags ||| Flag.migAborted.mask ∧
          t.cmdQ = rest ∧
          t.rspQ = s.rspQ ++
            [{ tag := cmdTag w, code := cmdCode w, status := .ok
               rsp1 := word4 c.val m.slice.val m.target.val state'.code
               rsp2 := word2 m.cursor m.poisoned
               rsp3 := word2 (s.generation + 1).toNat behind.length }])

/-- R31, R43, R67: RETIRE of a TARGET frame marks it with cause SOFTWARE, aborts the channel that names
it with cause TARGET_RETIRED and retires it, in one event with one advance of the generation. The channel's
byte of RSP2 is the model's reading of R181 (notes/assumptions/27.md), and so is the one order of the channels
still to abort that `AbortLeaves` gives (of R66, notes/assumptions/6.md). -/
def Obligations.RetireOfATargetAbortsItsChannel : Prop :=
  ∀ (s : State) (w : CmdWord) (rest : List CmdWord) (f : FrameNo) (c : ChanNo) (m : Migration)
    (source : FrameNo),
    Takes s 0x23 w rest → byteOf w.cmd1 1 = f.val → MapLaws s → ClaimLaws s → inService s →
    (s.chan c).state.migration = some m → m.target = f →
    (s.slice m.slice).loc = .migrating source c →
    ∃ t, exec .retire s = .next t ∧
      AbortLeaves s t c m source { s.frame f with state := .retired, suspect := some .software }
        .targetRetired ∧
      t.flags = s.flags ||| Flag.frameSuspect.mask ||| Flag.frameRetired.mask |||
        Flag.migAborted.mask ∧
      t.cmdQ = rest ∧
      t.rspQ = s.rspQ ++
        [{ tag := cmdTag w, code := cmdCode w, status := .ok
           rsp1 := word4 f.val 6 0xFF 4, rsp2 := word4 c.val 0 0 0
           rsp3 := genWord (s.generation + 1) }]

/-! ## BAD_COMMAND, the poison commands, the policy and ADOPT_DEFAULT -/

/-- R147, R121, R12, R141, R142: a word whose code names no command is refused BAD_COMMAND; with no word, no
room for a response, no power or another command's word at the head, no command of the table is taken (the
last is the model's reading, notes/assumptions/3.md); out of phase a command is refused WRONG_PHASE, or
BAD_ARG if an argument is out of range, and under the map lock the six are refused LOCKED or BAD_ARG. -/
def Obligations.CommandsAreCheckedInTurn : Prop :=
  (∀ (s : State) (code : Byte) (w : CmdWord) (rest : List CmdWord), Takes s code w rest →
     code.toNat ∉ [0x10, 0x11, 0x12, 0x13, 0x14, 0x20, 0x21, 0x22, 0x23, 0x24, 0x30, 0x31, 0x32,
       0x40, 0x41, 0x50, 0x51, 0x52, 0x60, 0x61, 0x62, 0x63, 0x68, 0x69] →
     Refused .badCommand s w rest .badCommand) ∧
  (∀ r ∈ commandTable, ∀ s : State,
     (s.powered = false ∨ s.cmdQ = [] ∨ Config.responseCapacity ≤ s.rspQ.length ∨
       ∃ w rest, s.cmdQ = w :: rest ∧ cmdCode w ≠ r.code) →
     exec r.instr s = .next s) ∧
  ∀ r ∈ commandTable, ∀ (s : State) (w : CmdWord) (rest : List CmdWord), Takes s r.code w rest →
    (s.phase ∉ r.phases →
      Refused r.instr s w rest .badArg ∨ Refused r.instr s w rest .wrongPhase) ∧
    (s.phase ∈ r.phases → r.lockable = true → s.locked = true →
      Refused r.instr s w rest .badArg ∨ Refused r.instr s w rest .locked)

/-- R85: CLEAR_POISON's checks in order; one entry leaves the list and the generation stays. -/
def Obligations.ClearPoisonRemovesOneEntry : Prop :=
  ∀ (s : State) (w : CmdWord) (rest : List CmdWord), Takes s 0x40 w rest →
    (47 < byteOf w.cmd1 0 ∨ 16383 < lowHalf w.cmd2 → Refused .clearPoison s w rest .badArg) ∧
    ∀ (i : SliceNo) (l : LineNo), byteOf w.cmd1 0 = i.val → lowHalf w.cmd2 = l.val →
      (¬inService s → Refused .clearPoison s w rest .wrongPhase) ∧
      (inService s → s.locked = true → Refused .clearPoison s w rest .locked) ∧
      (inService s → s.locked = false → (i, l) ∉ s.poison →
        Refused .clearPoison s w rest .wrongState) ∧
      ∀ before behind, inService s → s.locked = false → s.poison = before ++ (i, l) :: behind →
        (i, l) ∉ before →
        exec .clearPoison s = .next
          { s.answered w rest .ok
              (word4 i.val before.length (before.length + behind.length) 0) (word2 l.val 0)
              (genWord s.generation) with
            poison := before ++ behind }

/-- R118, R150, R151: SET_POLICY takes every field at once in every phase and under the lock, answers the
record as it stood, and in STAGED and ACTIVE the scrub timer follows a changed interval. -/
def Obligations.SetPolicyWritesTheWholeRecord : Prop :=
  ∀ (s : State) (w : CmdWord) (rest : List CmdWord), Takes s 0x50 w rest →
    (1 < byteOf w.cmd1 0 ∨ byteOf w.cmd1 1 = 0 ∨ 63 < byteOf w.cmd1 2 ∨ 16 < byteOf w.cmd1 3 →
      Refused .setPolicy s w rest .badArg) ∧
    ∀ (p : Policy) (timer : Option Nat) (pending : Bool),
      byteOf w.cmd1 0 = p.autoRetire.toNat → byteOf w.cmd1 1 = p.threshold → p.threshold ≠ 0 →
      byteOf w.cmd1 2 = p.spareLow → p.spareLow ≤ 63 → byteOf w.cmd1 3 = p.defaultReserve →
      p.defaultReserve ≤ 16 → lowHalf w.cmd2 = p.scrubInterval →
      ((¬inService s ∨ p.scrubInterval = s.policy.scrubInterval) ∧ timer = s.scrub.timer ∧
          pending = s.scrub.expiryPending ∨
        inService s ∧ p.scrubInterval ≠ s.policy.scrubInterval ∧ p.scrubInterval = 0 ∧
          timer = none ∧ pending = false ∨
        inService s ∧ p.scrubInterval ≠ s.policy.scrubInterval ∧ p.scrubInterval ≠ 0 ∧
          timer = some 0 ∧ pending = s.scrub.expiryPending) →
      exec .setPolicy s = .next
        { s.answered w rest .ok
            (word4 s.policy.autoRetire.toNat s.policy.threshold s.policy.spareLow
              s.policy.defaultReserve)
            (word2 s.policy.scrubInterval 0) (genWord s.generation) with
          policy := p
          scrub := { s.scrub with timer := timer, expiryPending := pending } }

/-- R130, R131, R132: ADOPT_DEFAULT's checks; the FREE frames in ascending number take slices 0 to n − 1,
n being the lesser of 48 and the FREE frames above the default reserve, and the rest become spares. -/
def Obligations.AdoptDefaultLaysDownTheDefaultMap : Prop :=
  ∀ (s : State) (w : CmdWord) (rest : List CmdWord), Takes s 0x52 w rest →
    (s.phase ≠ .staged → Refused .adoptDefault s w rest .wrongPhase) ∧
    (s.phase = .staged → s.locked = true → Refused .adoptDefault s w rest .locked) ∧
    (s.phase = .staged → s.locked = false → ∀ (free : List FrameNo) (n : Nat) (g : BitVec 16),
      free = (List.finRange 64).filter (fun f => decide ((s.frame f).state = .free)) →
      n = min 48 (free.length - s.policy.defaultReserve) →
      (free = [] ∧ g = s.generation ∨ free ≠ [] ∧ g = s.generation + 1) →
      ∃ t, exec .adoptDefault s = .next t ∧
        (∀ k : Nat, ∀ f : FrameNo, free[k]? = some f → k < n → ∀ h48 : k < 48,
          t.frame f = { s.frame f with state := .bound ⟨k, h48⟩ } ∧
          t.slice ⟨k, h48⟩ = { loc := .mapped f, protect := false, domain := 0xF#4 }) ∧
        (∀ k : Nat, ∀ f : FrameNo, free[k]? = some f → n ≤ k →
          t.frame f = { s.frame f with state := .spare }) ∧
        (∀ f : FrameNo, (s.frame f).state ≠ .free → t.frame f = s.frame f) ∧
        (∀ i : SliceNo, n ≤ i.val → t.slice i = s.slice i) ∧
        t = { s.answered w rest .ok (word4 n (free.length - n) 0 0) 0 (genWord g) with
              slices := t.slices
              frames := t.frames
              spareQ := s.spareQ ++ free.drop n
              phase := .active
              generation := g })

/-! ## The checks every command shares -/

/-! ## Map images -/

/-- R157: EXPORT_BEGIN opens a session at record 0 with the live generation saved, replacing one that was
running. R158: EXPORT_NEXT returns the record at the cursor and moves it on, ends after the trailer, and
is refused SEQUENCE with no session and STALE once the generation has moved. The order of the record's
bytes in RSP2 and RSP3 is the model's reading, notes/assumptions/12.md. -/
def Obligations.ExportReturnsTheImageRecordByRecord : Prop :=
  ∀ (s : State) (w : CmdWord) (rest : List CmdWord),
    (Takes s 0x68 w rest →
      (¬inService s → Refused .exportBegin s w rest .wrongPhase) ∧
      (inService s → ∀ replaced : Nat,
        (s.exportS = none ∧ replaced = 0 ∨ s.exportS ≠ none ∧ replaced = 1) →
        exec .exportBegin s = .next
          { s.answered w rest .ok (word4 replaced 0 0 0) 0 (genWord s.generation) with
            exportS := some
              { cursor := 0, savedGen := s.generation, check := 0xFFFFFFFF#32 } })) ∧
    (Takes s 0x69 w rest →
      (¬inService s → Refused .exportNext s w rest .wrongPhase) ∧
      (inService s → s.exportS = none → Refused .exportNext s w rest .sequence) ∧
      (inService s → ∀ e : ExportSession, s.exportS = some e →
        (s.generation ≠ e.savedGen →
          exec .exportNext s = .next
            { s.answered w rest .stale (word4 e.cursor 0 0 0) 0 0 with exportS := none }) ∧
        (s.generation = e.savedGen → ∀ record : Word64, ∀ e' : Option ExportSession,
          (e.cursor = 0 ∧ record = s.headerRecord e.savedGen ∨
            (∃ f : FrameNo, e.cursor = f.val + 1 ∧ record = s.frameRecord f) ∨
            (∃ i : SliceNo, e.cursor = i.val + 65 ∧ record = s.sliceRecord i) ∨
            e.cursor = 113 ∧ record = trailerRecord (~~~e.check)) →
          (e.cursor ≤ 112 ∧ e' = some
              { cursor := e.cursor + 1, savedGen := e.savedGen
                check := crcRecord e.check record } ∨
            e.cursor = 113 ∧ e' = none) →
          exec .exportNext s = .next
            { s.answered w rest .ok (word4 e.cursor 0 0 0) (record.extractLsb' 32 32)
                (record.extractLsb' 0 32) with
              exportS := e' })))

/-- R160: IMPORT_BEGIN opens an empty session, stops the scrubber and ends an export; R162: IMPORT_ABORT
discards the session, returns the phase to STAGED and starts the scrub timer from zero if the interval is
not 0. -/
def Obligations.ImportSessionsOpenAndAreAbandoned : Prop :=
  ∀ (s : State) (w : CmdWord) (rest : List CmdWord),
    (Takes s 0x60 w rest →
      (s.phase ≠ .staged → Refused .importBegin s w rest .wrongPhase) ∧
      (s.phase = .staged → s.locked = true → Refused .importBegin s w rest .locked) ∧
      (s.phase = .staged → s.locked = false →
        exec .importBegin s = .next
          { s.answered w rest .ok
              (word4 ((List.finRange 64).countP fun f => decide ((s.frame f).state ≠ .absent))
                0 0 0) 0 (genWord s.generation) with
            importS := some
              { expected := 0, check := 0xFFFFFFFF#32, header := none
                frames := Vector.replicate 64 none, slices := Vector.replicate 48 none
                received := none }
            exportS := none
            phase := .importing
            scrub := { s.scrub with timer := none, expiryPending := false } })) ∧
    (Takes s 0x63 w rest →
      (s.phase ≠ .importing → Refused .importAbort s w rest .wrongPhase) ∧
      (s.phase = .importing → ∀ e : ImportSession, s.importS = some e →
        exec .importAbort s = .next
          { s.answered w rest .ok (word4 0 e.expected 0 0) 0 0 with
            importS := none
            phase := .staged
            scrub := { s.scrub with
              timer := if s.policy.scrubInterval = 0 then none else some 0 } }))

/-- R161: IMPORT_RECORD's checks in order; a refusal in IMPORTING ends the session, an accepted record
moves the expected index on by one and is folded into the running check unless it is the trailer, and no
live table changes. -/
def Obligations.ImportRecordsAreAcceptedInOrder : Prop :=
  ∀ (s : State) (w : CmdWord) (rest : List CmdWord), Takes s 0x61 w rest →
    (¬(byteOf w.cmd1 0 ≤ 113 ∧ imageFieldsInRange (w.cmd2 ++ w.cmd3) = true) →
      s.phase ≠ .importing → Refused .importRecord s w rest .badArg) ∧
    (byteOf w.cmd1 0 ≤ 113 → imageFieldsInRange (w.cmd2 ++ w.cmd3) = true →
      s.phase ≠ .importing → Refused .importRecord s w rest .wrongPhase) ∧
    ∀ e : ImportSession, s.phase = .importing → s.importS = some e →
      (∀ st : Status,
        (¬(byteOf w.cmd1 0 ≤ 113 ∧ imageFieldsInRange (w.cmd2 ++ w.cmd3) = true) ∧
            st = .badArg ∨
          byteOf w.cmd1 0 ≤ 113 ∧ imageFieldsInRange (w.cmd2 ++ w.cmd3) = true ∧
            ¬(byteOf w.cmd1 0 = e.expected ∧
              imageRecordAt (w.cmd2 ++ w.cmd3) (byteOf w.cmd1 0) = true) ∧
            st = .sequence) →
        exec .importRecord s = .next
          { s.answered w rest st (word4 0 e.expected 0 0) 0 0 with
            importS := none
            phase := .staged
            scrub := { s.scrub with
              timer := if s.policy.scrubInterval = 0 then none else some 0 } }) ∧
      (byteOf w.cmd1 0 ≤ 113 → imageFieldsInRange (w.cmd2 ++ w.cmd3) = true →
        byteOf w.cmd1 0 = e.expected →
        imageRecordAt (w.cmd2 ++ w.cmd3) (byteOf w.cmd1 0) = true →
        ∃ e' : ImportSession,
          exec .importRecord s = .next
            { s.answered w rest .ok (word4 e.expected (e.expected + 1) 0 0) 0 0 with
              importS := some e' } ∧
          e'.expected = e.expected + 1 ∧
          (e.expected ≤ 112 → e'.check = crcRecord e.check (w.cmd2 ++ w.cmd3) ∧
            e'.received = e.received) ∧
          (e.expected = 113 → e'.check = e.check ∧ e'.received = some w.cmd3 ∧
            e'.header = e.header ∧ e'.frames = e.frames ∧ e'.slices = e.slices) ∧
          (e.expected = 0 → e'.frames = e.frames ∧ e'.slices = e.slices ∧
            e'.header = some
              { present := recByte (w.cmd2 ++ w.cmd3) 2
                generation := BitVec.ofNat 16
                  (recByte (w.cmd2 ++ w.cmd3) 4 * 256 + recByte (w.cmd2 ++ w.cmd3) 5) }) ∧
          (∀ f : FrameNo, e.expected = f.val + 1 → ∃ r : ImgFrame,
            e'.frames = e.frames.set f (some r) ∧ e'.slices = e.slices ∧ e'.header = e.header ∧
            (recByte (w.cmd2 ++ w.cmd3) 2, r.state) ∈
              [(0, ImgState.absent), (2, .free), (3, .spare), (4, .bound), (6, .retired)] ∧
            (r.bound.map Fin.val).getD 0xFF = recByte (w.cmd2 ++ w.cmd3) 3 ∧
            (r.sparePos.map Fin.val).getD 0xFF = recByte (w.cmd2 ++ w.cmd3) 4 ∧
            causeCode r.suspect = recByte (w.cmd2 ++ w.cmd3) 5 ∧
            r.corrected = recByte (w.cmd2 ++ w.cmd3) 6 ∧
            r.uncorrectable = recByte (w.cmd2 ++ w.cmd3) 7) ∧
          ∀ i : SliceNo, e.expected = i.val + 65 → e'.frames = e.frames ∧ e'.header = e.header ∧
            e'.slices = e.slices.set i (some
              { mapped := decide (recByte (w.cmd2 ++ w.cmd3) 2 = 1)
                protect := decide (recByte (w.cmd2 ++ w.cmd3) 3 = 1)
                domain := BitVec.ofNat 4 (recByte (w.cmd2 ++ w.cmd3) 4) }))

/-- R163, R164, R165: IMPORT_END's checks in order, each ending the session with what it reports: the
lowest record index named against a failed condition of R164, or of a frame that the image binds and that is
ABSENT or RETIRED now. The model's check of R164 finds nothing exactly where no record is named. -/
def Obligations.ImportEndRefusalsEndTheSession : Prop :=
  (∀ e : ImportSession, e.inconsistent = none ↔ ∀ k, ¬e.named k) ∧
  ∀ (s : State) (w : CmdWord) (rest : List CmdWord), Takes s 0x62 w rest →
    (s.phase ≠ .importing → Refused .importEnd s w rest .wrongPhase) ∧
    ∀ (e : ImportSession) (st : Status) (r1 r2 : Word32), s.phase = .importing →
      s.importS = some e →
      (e.expected < 114 ∧ st = .sequence ∧ r1 = word4 0 e.expected 0 0 ∧ r2 = 0 ∨
        (∃ c, e.expected = 114 ∧ e.received = some c ∧ ~~~e.check ≠ c ∧ st = .checkFailed ∧
          r1 = ~~~e.check ∧ r2 = c) ∨
        (∃ n, e.expected = 114 ∧ e.received = some (~~~e.check) ∧ e.named n ∧
          (∀ k, k < n → ¬e.named k) ∧ st = .mismatch ∧ r1 = word4 1 n 0 0 ∧ r2 = 0) ∨
        ∃ f : FrameNo, e.expected = 114 ∧ e.received = some (~~~e.check) ∧
          (∀ k, ¬e.named k) ∧
          ((e.frame f).state = .bound ∧
            ((s.frame f).state = .absent ∨ (s.frame f).state = .retired)) ∧
          (∀ g : FrameNo, g < f → ¬((e.frame g).state = .bound ∧
            ((s.frame g).state = .absent ∨ (s.frame g).state = .retired))) ∧
          st = .mismatch ∧ r1 = word4 2 (f.val + 1) 0 0 ∧ r2 = 0) →
      exec .importEnd s = .next
        { s.answered w rest st r1 r2 0 with
          importS := none
          phase := .staged
          scrub := { s.scrub with
            timer := if s.policy.scrubInterval = 0 then none else some 0 } }

/-- R166, R167: a session that passes every check commits: frames by R166's table, slices on the frames
the image binds, the spares in image order, the suspect BOUND frames queued up to 8, the phase ACTIVE, the
session ended, and one advance of the generation if anything of the map changed. -/
def Obligations.ImportCommitBuildsTheMap : Prop :=
  ∀ (s : State) (w : CmdWord) (rest : List CmdWord) (e : ImportSession), Takes s 0x62 w rest →
    MapLaws s → s.phase = .importing → s.importS = some e → e.expected = 114 →
    e.received = some (~~~e.check) → e.inconsistent = none →
    (∀ f : FrameNo, ¬((e.frame f).state = .bound ∧
      ((s.frame f).state = .absent ∨ (s.frame f).state = .retired))) →
    ∃ t, exec .importEnd s = .next t ∧
      (∀ f : FrameNo, (s.frame f).state = .absent → t.frame f = s.frame f) ∧
      (∀ f : FrameNo, (s.frame f).state ≠ .absent →
        CommittedFrame (s.frame f) (t.frame f) (e.frame f)) ∧
      (∀ i : SliceNo, (t.slice i).protect = (e.slice i).protect ∧
        (t.slice i).domain = (e.slice i).domain ∧
        ((e.slice i).mapped = false → (t.slice i).loc = .unmapped) ∧
        ∀ f : FrameNo, (e.slice i).mapped = true → (e.frame f).state = .bound →
          (e.frame f).bound = some i → (t.slice i).loc = .mapped f) ∧
      (∀ f : FrameNo, f ∈ t.spareQ ↔ (t.frame f).state = .spare) ∧
      t.spareQ.Pairwise (fun f g => ∀ p q, (e.frame f).sparePos = some p →
        (e.frame g).sparePos = some q → p < q) ∧
      t.retireQ = ((List.finRange 64).filter fun f =>
        decide (t.suspectBound f)).take 8 ∧
      t = { s.answered w rest .ok
              (word4 ((List.finRange 48).countP fun i => (e.slice i).mapped)
                t.spareQ.length t.retireQ.length 0)
              (word2 ((e.header.map (·.generation.toNat)).getD 0) 0)
              (genWord t.generation) with
            slices := t.slices, frames := t.frames, spareQ := t.spareQ, retireQ := t.retireQ
            phase := .active
            importS := none
            scrub := { s.scrub with
              timer := if s.policy.scrubInterval = 0 then none else some 0 }
            generation := s.generation + (if s.mapChanged t then 1 else 0)
            flags := s.flags |||
              flagIf (decide (∃ f : FrameNo,
                (s.frame f).suspect = none ∧ (t.frame f).suspect ≠ none)) .frameSuspect |||
              flagIf (decide (∃ f : FrameNo,
                (s.frame f).state ≠ .retired ∧ (t.frame f).state = .retired)) .frameRetired }

/-! ## Power and warm restart -/

/-- R8, R22, R33, R37, R47, R75, R88, R95, R107, R122, R123, R128, R150, R168: the power-on reset leaves
every block at its power-on values with the codes sampled, whatever the part held before. The requests for a
warm restart not yet taken are lost in it (R133; that the model counts them, notes/assumptions/11.md). -/
def Obligations.PowerOnResetGivesPowerOnValues : Prop :=
  ∀ (s : State) (codes : PresenceCodes),
    ∃ t, exec (.powerOnReset codes) s = .next t ∧ t.powered = true ∧ t.presence = codes ∧
      (∀ i : SliceNo, t.slice i = { loc := .unmapped, protect := false, domain := 0xF#4 }) ∧
      t.generation = 0 ∧ t.locked = false ∧
      (∀ f : FrameNo, t.frame f =
        { state := if f.val % 16 < fitted codes[f.val / 16] then .untested else .absent
          suspect := none, corrected := 0, uncorrectable := 0 }) ∧
      t.spareQ = [] ∧ t.retireQ = [] ∧ t.poison = [] ∧
      (∀ c : ChanNo, t.chan c = { state := .idle, last := .none }) ∧
      (∀ o : Owner, t.place o = .empty) ∧ (∀ i : Initiator, (t.port i).txn = .idle) ∧
      (t.scrub.frame = 0 ∧ t.scrub.line = 0 ∧ t.scrub.passCount = 0 ∧ t.scrub.stage = .none ∧
        t.scrub.expiryPending = false) ∧
      t.cmdQ = [] ∧ t.rspQ = [] ∧ t.exportS = none ∧ t.importS = none ∧
      t.policy = { autoRetire := true, threshold := 16, spareLow := 2, scrubInterval := 100
                   defaultReserve := 4 } ∧
      t.eventEnable = 0 ∧ t.faultEnable = false ∧ t.staging = ⟨0, 0, 0, 0⟩ ∧
      t.warmReq = 0 ∧ t.broken = [] ∧ t.reqOrder = [] ∧
      (∀ k : Socket, (t.arb k).lastChan = 3 ∧ (t.arb k).port = []) ∧
      (∀ f : FrameNo, presentIn codes f = true → (∀ g : FrameNo, g < f → presentIn codes g = false) →
        t.phase = .inventory ∧ t.flags = 0 ∧ t.scrub.timer = none ∧
        t.walk = { running := true, frame := some f, pass := .write, line := 0, failed := false
                   outstanding := some .write } ∧
        ∀ k : Socket, (t.arb k).waiting =
          if socketOf f = k then [liveOp .inventory ⟨f, 0⟩ (.writeLine (patternLine ⟨f, 0⟩))]
          else []) ∧
      ((∀ f : FrameNo, presentIn codes f = false) →
        t.phase = .staged ∧ t.flags = Flag.inventoryDone.mask ∧ t.scrub.timer = some 0 ∧
        t.walk.running = false ∧ t.walk.frame = none ∧ ∀ k : Socket, (t.arb k).waiting = [])

/-- R122, R133, R183, and the model's reading of a part without power (notes/assumptions/2.md): a fall of
power-good leaves it unpowered, and unpowered it takes nothing but the power-on reset, asserts no output
and answers no read; powered, a transition of the warm-restart input to active is one request, holding it
and its return are none, and no warm restart is taken unasked. -/
def Obligations.PowerAndRestartRequests : Prop :=
  ((∀ s : State, ∃ t, exec .powerGoodFall s = .next t ∧ t.powered = false) ∧
   ∀ s : State, s.powered = false →
     s.attn = false ∧ s.fault = false ∧ (∀ a r, s.apertureRead a r = none) ∧
     (∀ active, exec (.warmRestartInput active) s = .next { s with warmPin := active }) ∧
     ∀ c : Instr, isPowerEvent c = false → (∀ active, c ≠ .warmRestartInput active) →
       exec c s = .next s) ∧
  ∀ s : State, s.powered = true →
    (s.warmPin = false → exec (.warmRestartInput true) s =
      .next { s with warmPin := true, warmReq := s.warmReq + 1 }) ∧
    (s.warmPin = true → exec (.warmRestartInput true) s = .next s) ∧
    exec (.warmRestartInput false) s = .next { s with warmPin := false } ∧
    (s.warmReq = 0 → exec .warmRestart s = .next s)

/-- R8, R46, R47, R63, R64, R69, R75, R95, R104, R119, R123, R134, R135, R136, R146, R157, R172: what one
warm-restart event leaves in every block, and what it keeps: a granted operation stays in its port to complete
without its work, its requester and an earlier abort's mark kept. That an operation keeps the mark of what
abandoned it first is the model's reading, notes/assumptions/7.md and 26.md. -/
def Obligations.WarmRestartKeepsTheMapAndEndsTheWork : Prop :=
  ∀ s : State, MapLaws s → s.powered = true → 0 < s.warmReq →
    ∃ t, exec .warmRestart s = .next t ∧ t.warmReq = s.warmReq - 1 ∧ t.powered = true ∧
      (∀ i : SliceNo, t.slice i = { s.slice i with
        loc := match (s.slice i).loc with
          | .migrating f _ => .mapped f
          | l => l }) ∧
      (∀ c : ChanNo,
        ((s.chan c).state = .idle → t.chan c = s.chan c) ∧
        ((s.chan c).state ≠ .idle → t.chan c = { state := .idle, last := .reset })) ∧
      t.broken = [] ∧
      (∀ f : FrameNo, (s.frame f).state ≠ .target → t.frame f = s.frame f) ∧
      (∀ (c : ChanNo) (m : Migration), (s.chan c).state.migration = some m →
        t.frame m.target = { s.frame m.target with
          state := if m.origin = .spare then .spare else .free }) ∧
      t.spareQ = s.spareQ ++ (List.finRange 4).filterMap (fun c =>
        match (s.chan c).state.migration with
        | some m => if m.origin = .spare then some m.target else none
        | none => none) ∧
      t.generation = s.generation + BitVec.ofNat 16
        ((List.finRange 4).countP fun c => decide ((s.chan c).state ≠ .idle)) ∧
      t.retireQ = s.retireQ ∧ t.poison = s.poison ∧ t.locked = s.locked ∧ t.policy = s.policy ∧
      t.presence = s.presence ∧ t.modules = s.modules ∧ t.staging = s.staging ∧
      t.eventEnable = s.eventEnable ∧ t.faultEnable = s.faultEnable ∧
      t.pending = s.pending ∧ t.warmPin = s.warmPin ∧ t.apReply = s.apReply ∧
      (∀ i : Initiator, ((s.port i).txn = .idle → t.port i = s.port i) ∧
        ((s.port i).txn ≠ .idle →
          t.port i = { txn := .idle, answer := some { resp := .aborted, data := .none } })) ∧
      (∀ o : Owner, t.place o = .empty) ∧ t.reqOrder = [] ∧
      (∀ k : Socket, (t.arb k).lastChan = 3 ∧ (∀ op ∈ (t.arb k).port, op.standing ≠ .live) ∧
        (t.arb k).port = (s.arb k).port.map fun op =>
          if op.standing = .live then { op with standing := .restarted } else op) ∧
      t.phase = (if s.phase = .importing then .staged else s.phase) ∧
      (t.scrub.frame = 0 ∧ t.scrub.line = 0 ∧ t.scrub.passCount = s.scrub.passCount ∧
        t.scrub.stage = .none ∧ t.scrub.expiryPending = false ∧
        t.scrub.timer = if s.phase ≠ .inventory ∧ s.policy.scrubInterval ≠ 0 then some 0
          else none) ∧
      t.cmdQ = [] ∧ t.rspQ = [] ∧ t.exportS = none ∧ t.importS = none ∧
      t.flags = Flag.warmStart.mask ∧
      (s.phase ≠ .inventory → ∀ k : Socket, (t.arb k).waiting = []) ∧
      (s.walk.frame = none →
        t.walk = { running := false, frame := none, pass := .write, line := 0, failed := false
                   outstanding := none }) ∧
      ∀ f : FrameNo, s.walk.frame = some f →
        t.walk = { running := true, frame := some f, pass := .write, line := 0, failed := false
                   outstanding := some .write } ∧
        ∀ k : Socket, (t.arb k).waiting =
          if socketOf f = k then [liveOp .inventory ⟨f, 0⟩ (.writeLine (patternLine ⟨f, 0⟩))]
          else []

/-! ## The control aperture -/

/-- R133, R138, R139, R145, R171, R173, R174, R177: the write effect of each register, answered OKAY; an access
from initiator 1, 2 or 3, or one that is narrow or not aligned, is answered DENIED, returns no data and
has no effect. That one wider than 32 bits is DENIED too is the model's choice (notes/assumptions/28.md). -/
def Obligations.ApertureWritesAreServedOrDenied : Prop :=
  (∀ (s : State) (v : Word32), s.powered = true →
     (s.cmdQ.length < 8 → exec (.submit servedBy0 v) s =
       .next { s with cmdQ := s.cmdQ ++ [s.staging], apReply := some .okay }) ∧
     (8 ≤ s.cmdQ.length → exec (.submit servedBy0 v) s =
       .next { s with flags := s.flags ||| Flag.cmdOverrun.mask, apReply := some .okay }) ∧
     (s.rspQ = [] → exec (.rspPop servedBy0 v) s = .next { s with apReply := some .okay }) ∧
     (∀ r q, s.rspQ = r :: q → exec (.rspPop servedBy0 v) s =
       .next { s with rspQ := q, apReply := some .okay }) ∧
     (∃ f, exec (.eventsWrite servedBy0 v) s =
         .next { s with flags := f, apReply := some .okay } ∧
       ∀ n : Nat, n < 13 → f.getLsbD n = (s.flags.getLsbD n && !v.getLsbD n)) ∧
     (∃ e, exec (.eventEnableWrite servedBy0 v) s =
         .next { s with eventEnable := e, apReply := some .okay } ∧
       ∀ n : Nat, n < 13 → e.getLsbD n = v.getLsbD n) ∧
     exec (.faultEnableWrite servedBy0 v) s =
       .next { s with faultEnable := v.getLsbD 0, apReply := some .okay } ∧
     (v = 0x000000A5#32 → exec (.warmRestartWrite servedBy0 v) s =
       .next { s with warmReq := s.warmReq + 1, apReply := some .okay }) ∧
     (v ≠ 0x000000A5#32 → exec (.warmRestartWrite servedBy0 v) s =
       .next { s with apReply := some .okay }) ∧
     exec (.registerWrite servedBy0 (.cmd 0) v) s =
       .next { s with staging := { s.staging with cmd0 := v }, apReply := some .okay } ∧
     exec (.registerWrite servedBy0 (.cmd 1) v) s =
       .next { s with staging := { s.staging with cmd1 := v }, apReply := some .okay } ∧
     exec (.registerWrite servedBy0 (.cmd 2) v) s =
       .next { s with staging := { s.staging with cmd2 := v }, apReply := some .okay } ∧
     exec (.registerWrite servedBy0 (.cmd 3) v) s =
       .next { s with staging := { s.staging with cmd3 := v }, apReply := some .okay } ∧
     ∀ r : PlainReg, (∀ n, r ≠ .cmd n) →
       exec (.registerWrite servedBy0 r v) s = .next { s with apReply := some .okay }) ∧
  ∀ (s : State) (a : BusAccess) (v : Word32), s.powered = true → a ≠ servedBy0 →
    (∀ c ∈ [Instr.submit a v, .rspPop a v, .eventsWrite a v, .eventEnableWrite a v,
        .faultEnableWrite a v, .warmRestartWrite a v],
      exec c s = .next { s with apReply := some .denied }) ∧
    (∀ r : PlainReg, exec (.registerWrite a r v) s = .next { s with apReply := some .denied }) ∧
    ∀ r : ApReg, s.apertureRead a r = some (.denied, none)

/-- R140, R144, R170, R171, R173, R174, R176, R177, R178: where each register lies and what a served read of it
returns; the thirteen flags stand in R178's order from bit 0; RESPONSE_READY follows the response queue; ATTN is
asserted while an enabled flag is set; FAULT while UNCORRECTABLE is set and the fault-enable bit is on. -/
def Obligations.RegistersAndOutputsShowTheState : Prop :=
  (∀ s : State, s.powered = true → s.cmdQ.length ≤ 8 → s.rspQ.length ≤ 8 →
     ∃ read : Nat → Word32,
       (∀ off r, apRegAt off = some r → s.apertureRead servedBy0 r = some (.okay, some (read off))) ∧
       (∀ off, off < 64 → off % 4 = 0 → ∃ r, apRegAt off = some r) ∧
       read 0x00 = 0x06480101#32 ∧
       read 0x04 = s.staging.cmd0 ∧ read 0x08 = s.staging.cmd1 ∧ read 0x0C = s.staging.cmd2 ∧
       read 0x10 = s.staging.cmd3 ∧
       (byteOf (read 0x18) 0 = 8 - s.cmdQ.length ∧ byteOf (read 0x18) 1 = s.rspQ.length ∧
         byteOf (read 0x18) 2 = (if s.flagSet .cmdOverrun then 1 else 0) ∧
         byteOf (read 0x18) 3 = 0) ∧
       (∀ r q, s.rspQ = r :: q →
         byteOf (read 0x1C) 0 = r.tag.toNat ∧ byteOf (read 0x1C) 1 = r.code.toNat ∧
         byteOf (read 0x1C) 2 = r.status.code ∧ byteOf (read 0x1C) 3 = 0x80 ∧
         read 0x20 = r.rsp1 ∧ read 0x24 = r.rsp2 ∧ read 0x28 = r.rsp3) ∧
       (s.rspQ = [] → read 0x1C = 0 ∧ read 0x20 = 0 ∧ read 0x24 = 0 ∧ read 0x28 = 0) ∧
       (∀ n : Nat, (read 0x30).getLsbD n = (decide (n < 13) && s.events.getLsbD n)) ∧
       (∀ n : Nat, (read 0x34).getLsbD n = (decide (n < 13) && s.eventEnable.getLsbD n)) ∧
       (read 0x38).toNat = s.faultEnable.toNat ∧
       read 0x14 = 0 ∧ read 0x2C = 0 ∧ read 0x3C = 0) ∧
  ([Flag.responseReady, .cmdOverrun, .migDone, .migAborted, .frameSuspect, .frameRetired, .spareLow,
    .spareEmpty, .poisonAdded, .poisonFull, .uncorrectable, .inventoryDone, .warmStart].map Flag.bit =
    List.range 13) ∧
  ∀ s : State, s.powered = true → s.flags.getLsbD 0 = false →
    (s.flagSet .responseReady = true ↔ s.rspQ ≠ []) ∧
    (∀ f : Flag, f ≠ .responseReady → s.flagSet f = s.flags.getLsbD f.bit) ∧
    (s.attn = true ↔ ∃ f : Flag, s.flagSet f = true ∧ s.eventEnable.getLsbD f.bit = true) ∧
    (s.fault = true ↔ s.flagSet .uncorrectable = true ∧ s.faultEnable = true)

/-! ## The data port -/

/-- R1, R87, R89: the checks of a transaction in order, each answered in the event that takes it with no
data and no other change; and a second presentation is not taken while one is outstanding. -/
def Obligations.TransactionsAreCheckedInOrder : Prop :=
  ∀ (s : State) (i : Initiator) (a : PortAccess) (addr : Nat), s.powered = true →
    ((s.port i).txn ≠ .idle → exec (.dataPortTransaction i a addr) s = .next s) ∧
    ((s.port i).txn = .idle → ∀ resp : PortResp,
      ((∃ wr, a = .otherSize wr) ∧ resp = .denied ∨
        (∀ wr, a ≠ .otherSize wr) ∧
        (0x0C000000 ≤ addr ∧ resp = .unmapped ∨
          ∃ sl : SliceNo, addr / 0x400000 = sl.val ∧
            ((s.slice sl).loc = .unmapped ∧ resp = .unmapped ∨
              (s.slice sl).loc ≠ .unmapped ∧
              ((s.slice sl).domain.getLsbD i.val = false ∧ resp = .denied ∨
                (s.slice sl).domain.getLsbD i.val = true ∧
                (((∃ d, a = .writeWord d) ∨ ∃ d, a = .writeLine d) ∧
                    (s.slice sl).protect = true ∧ resp = .protected_ ∨
                  ¬(((∃ d, a = .writeWord d) ∨ ∃ d, a = .writeLine d) ∧
                    (s.slice sl).protect = true) ∧
                  (∀ d, a ≠ .writeLine d) ∧
                  (∃ l : LineNo, addr % 0x400000 / 256 = l.val ∧ (sl, l) ∈ s.poison) ∧
                  resp = .poisoned))))) →
      exec (.dataPortTransaction i a addr) s = .next
        { s with
          ports := s.ports.set i
            { txn := .idle, answer := some { resp := resp, data := .none } } })

/-- R2, R91: a read that passes the checks is steered to the source frame's line at once, claimed or
not, and asks its socket's arbiter for the whole line. -/
def Obligations.ReadsAreSteeredToTheSource : Prop :=
  ∀ (s : State) (i : Initiator) (a : PortAccess) (addr : Nat) (sl : SliceNo) (l : LineNo)
    (f : FrameNo) (op : TxnOp) (k : Socket),
    s.powered = true → (s.port i).txn = .idle →
    addr / 0x400000 = sl.val → addr % 0x400000 / 256 = l.val →
    (s.slice sl).loc.source = some f → passesChecks s i false false sl l →
    (a = .readLine ∧ op = .readLine ∨
      a = .readWord ∧ ∃ w : WordIx, addr % 256 / 8 = w.val ∧ op = .readWord w) →
    k.val = f.val / 16 →
    exec (.dataPortTransaction i a addr) s = .next
      { s with
        ports := s.ports.set i
          { txn := .steered { op := op, slice := sl, line := l } f none 1, answer := none }
        arbs := s.arbs.set k
          { s.arb k with
            waiting := (s.arb k).waiting ++ [liveOp (.dataPort i) ⟨f, l⟩ .read] } }

/-- R2, R92, R93, R97, R105: a write that passes the checks waits on a claim of its source line; else it
goes to the source alone, or, below the cursor of a migrating slice's channel, to source and target in
that order. -/
def Obligations.WritesGoToTheSourceOrAreMirroredOrHeld : Prop :=
  ∀ (s : State) (i : Initiator) (a : PortAccess) (addr : Nat) (sl : SliceNo) (l : LineNo)
    (f : FrameNo) (op : TxnOp) (act : OpAct) (lineWrite : Bool),
    s.powered = true → (s.port i).txn = .idle →
    addr / 0x400000 = sl.val → addr % 0x400000 / 256 = l.val →
    (s.slice sl).loc.source = some f → passesChecks s i true lineWrite sl l →
    ((∃ d, a = .writeLine d ∧ op = .writeLine d ∧ act = .writeLine d ∧ lineWrite = true) ∨
      ∃ d, ∃ w : WordIx, a = .writeWord d ∧ addr % 256 / 8 = w.val ∧ op = .writeWord w d ∧
        act = .writeWord w d ∧ lineWrite = false) →
    (∀ o held, s.place o = .claimed ⟨f, l⟩ held → claimsApart s →
      exec (.dataPortTransaction i a addr) s = .next
        { s with
          ports := s.ports.set i
            { txn := .held { op := op, slice := sl, line := l } o, answer := none }
          places := s.places.set (ownerPlace o) (.claimed ⟨f, l⟩ (held ++ [i])) }) ∧
    ((∀ o, (s.place o).claims ⟨f, l⟩ = false) →
      (((s.slice sl).loc = .mapped f ∨ ∃ c m, (s.slice sl).loc = .migrating f c ∧
          (s.chan c).state.migration = some m ∧ m.cursor ≤ l.val) →
        exec (.dataPortTransaction i a addr) s = .next
          { s with
            ports := s.ports.set i
              { txn := .steered { op := op, slice := sl, line := l } f none 1, answer := none }
            arbs := s.arbs.set (socketOf f)
              { s.arb (socketOf f) with
                waiting := (s.arb (socketOf f)).waiting ++
                  [liveOp (.dataPort i) ⟨f, l⟩ act] } }) ∧
      ∀ c m, (s.slice sl).loc = .migrating f c → (s.chan c).state.migration = some m →
        l.val < m.cursor →
        exec (.dataPortTransaction i a addr) s = .next
          { s with
            ports := s.ports.set i
              { txn := .steered { op := op, slice := sl, line := l } f (some m.target) 2
                answer := none }
            arbs := Vector.ofFn fun k =>
              { s.arb k with
                waiting := (s.arb k).waiting ++
                  (if socketOf f = k then [liveOp (.dataPort i) ⟨f, l⟩ act] else []) ++
                  if socketOf m.target = k then [liveOp (.dataPort i) ⟨m.target, l⟩ act]
                  else [] } })

/-- R24, R25, R26, R27, R28, R29, R30, R32: an outcome is counted, saturating, in every state; it marks a FREE,
SPARE or BOUND frame that is not suspect, at the threshold or at once; a FREE or SPARE frame is then
retired, a BOUND one queued if there is room, and the generation advances once for the marking; any other
outcome is counted and changes nothing else. -/
def Obligations.OutcomesAreCountedAndMark : Prop :=
  (∀ (s : State) (f : FrameNo) (o : ReadOutcome) (r : FrameRec), r = (s.frame f).counted o →
     ∀ cause : Cause,
       (o = .corrected ∧ s.policy.threshold ≤ r.corrected ∧ cause = .threshold ∨
         o = .uncorrectable ∧ cause = .uncorrectable) → r.suspect = none →
       (r.state = .free → s.takeOutcome f o =
         { s with
           frames := s.frames.set f { r with state := .retired, suspect := some cause }
           flags := s.flags ||| Flag.frameSuspect.mask ||| Flag.frameRetired.mask
           generation := s.generation + 1 }) ∧
       (r.state = .spare → s.takeOutcome f o =
         { s with
           frames := s.frames.set f { r with state := .retired, suspect := some cause }
           spareQ := s.spareQ.erase f
           flags := s.flags ||| Flag.frameSuspect.mask ||| s.removalFlags (s.spareQ.erase f) |||
             Flag.frameRetired.mask
           generation := s.generation + 1 }) ∧
       ∀ i, r.state = .bound i → s.takeOutcome f o =
         { s with
           frames := s.frames.set f { r with suspect := some cause }
           retireQ := if s.retireQ.length < 8 then s.retireQ ++ [f] else s.retireQ
           flags := s.flags ||| Flag.frameSuspect.mask
           generation := s.generation + 1 }) ∧
  ∀ (s : State) (f : FrameNo) (o : ReadOutcome) (r : FrameRec), r = (s.frame f).counted o →
    (o = .clean ∨ o = .corrected ∧ r.corrected < s.policy.threshold ∨ r.suspect ≠ none ∨
      r.state = .absent ∨ r.state = .untested ∨ r.state = .target ∨ r.state = .retired) →
    s.takeOutcome f o = { s with frames := s.frames.set f r }

/-- R100, R101, R77, R78: a clean or corrected outcome answers OKAY with the line's data, counted and
marked; an uncorrectable one answers UNCORRECTABLE with none, sets UNCORRECTABLE, and asks for the poison
entry unless the slice is UNMAPPED by then. -/
def Obligations.ReadOutcomesAnswerTheInitiator : Prop :=
  ∀ (s : State) (k : Socket) (op : ModOp) (rest : List ModOp) (i : Initiator) (t : Txn)
    (f : FrameNo) (g : Option FrameNo) (n : Nat),
    s.powered = true → (s.arb k).port = op :: rest → op.req = .dataPort i → op.act = .read →
    op.standing = .live → (s.port i).txn = .steered t f g n →
    (∀ o data, o ≠ .uncorrectable →
      ((∃ w, t.op = .readWord w ∧ data = PortData.word (s.contents op.fl)[w]) ∨
        t.op = .readLine ∧ data = PortData.line (s.contents op.fl)) →
      exec (.dataPortReadOutcome k o) s = .next
        { (s.landed k op rest).takeOutcome op.fl.frame o with
          ports := s.ports.set i
            { txn := .idle, answer := some { resp := .okay, data := data } } }) ∧
    ∀ (list : List (SliceNo × LineNo)) (flag : BitVec 13),
      (((s.slice t.slice).loc = .unmapped ∨ (t.slice, t.line) ∈ s.poison) ∧ list = s.poison ∧
          flag = 0 ∨
        (s.slice t.slice).loc ≠ .unmapped ∧ (t.slice, t.line) ∉ s.poison ∧
          (s.poison.length < 32 ∧ list = s.poison ++ [(t.slice, t.line)] ∧
              flag = Flag.poisonAdded.mask ∨
            32 ≤ s.poison.length ∧ list = s.poison ∧ flag = Flag.poisonFull.mask)) →
      exec (.dataPortReadOutcome k .uncorrectable) s = .next
        { (s.landed k op rest).takeOutcome op.fl.frame .uncorrectable with
          poison := list
          flags := ((s.landed k op rest).takeOutcome op.fl.frame .uncorrectable).flags ||| flag |||
            Flag.uncorrectable.mask
          ports := s.ports.set i
            { txn := .idle, answer := some { resp := .uncorrectable, data := .none } } }

/-- R82, R94, R96, R99: a module write lands; the transaction's last one removes the poison entry of a
line write and answers OKAY, one before the last leaves one outstanding; then the requests on that frame
line are tested. -/
def Obligations.WriteCompletionsLandAndAnswer : Prop :=
  ∀ (s : State) (k : Socket) (op : ModOp) (rest : List ModOp) (i : Initiator) (t : Txn)
    (f : FrameNo) (g : Option FrameNo) (n : Nat),
    s.powered = true → (s.arb k).port = op :: rest → op.req = .dataPort i → op.act ≠ .read →
    op.standing = .live → (s.port i).txn = .steered t f g n →
    (n = 2 → exec (.dataPortWriteComplete k) s = .next
      ({ s.landed k op rest with
          ports := s.ports.set i { s.port i with txn := .steered t f g 1 } }.testRequests
        op.fl)) ∧
    (n = 1 → ∀ list : List (SliceNo × LineNo),
      ((∃ d, t.op = .writeLine d) ∧ list = s.poison.erase (t.slice, t.line) ∨
        (∀ d, t.op ≠ .writeLine d) ∧ list = s.poison) →
      exec (.dataPortWriteComplete k) s = .next
        ({ s.landed k op rest with
            poison := list
            ports := s.ports.set i
              { txn := .idle, answer := some { resp := .okay, data := .none } } }.testRequests
          op.fl))

/-- R46, R65, R96, R104, R119: an operation left by abandoned work completes: a write lands, a read that
an abort abandoned is counted, one that a warm restart abandoned is not; then the requests on its line
are tested. An operation of work under way is none of these. That an abandoned operation keeps the mark of
what abandoned it first is the model's reading, notes/assumptions/7.md and 26.md. -/
def Obligations.AbandonedOperationsComplete : Prop :=
  ∀ (s : State) (k : Socket) (op : ModOp) (rest : List ModOp) (o : ReadOutcome),
    s.powered = true → (s.arb k).port = op :: rest →
    (op.standing = .live → exec (.abandonedOperationComplete k o) s = .next s) ∧
    (op.standing = .aborted → op.act = .read →
      exec (.abandonedOperationComplete k o) s = .next
        (((s.landed k op rest).takeOutcome op.fl.frame o).testRequests op.fl)) ∧
    (op.standing = .restarted ∨ op.standing = .aborted ∧ op.act ≠ .read →
      exec (.abandonedOperationComplete k o) s = .next
        ((s.landed k op rest).testRequests op.fl))

/-- R105, R106: an arbiter grants, among the operations with no earlier one on their frame line, the
data port's oldest, else the scrubber's, else the channels' in rotation after the channel last granted,
else the walk's; the granted one joins the port's tail. -/
def Obligations.ArbitersGrantByPriority : Prop :=
  ∀ (s : State) (k : Socket), s.powered = true →
    ((s.arb k).waiting = [] → exec (.arbiterGrant k) s = .next s) ∧
    ∀ before op after, (s.arb k).waiting = before ++ op :: after → eligibleAfter before op →
      ((op.req.isDataPort = true ∧
          (∀ b x a, (s.arb k).waiting = b ++ x :: a → eligibleAfter b x →
            x.req.isDataPort = true → before.length ≤ b.length)) ∨
        (∀ b x a, (s.arb k).waiting = b ++ x :: a → eligibleAfter b x →
          x.req.isDataPort = false) ∧
        (op.req = .scrubber ∧
            (∀ b x a, (s.arb k).waiting = b ++ x :: a → eligibleAfter b x →
              x.req = .scrubber → before.length ≤ b.length) ∨
          (∀ b x a, (s.arb k).waiting = b ++ x :: a → eligibleAfter b x →
            x.req ≠ .scrubber) ∧
          ∃ c : ChanNo, op.req = .channel c ∧
            (∀ b x a, (s.arb k).waiting = b ++ x :: a → eligibleAfter b x →
              x.req = .channel c → before.length ≤ b.length) ∧
            ∀ d : ChanNo,
              (d - (s.arb k).lastChan - 1).val < (c - (s.arb k).lastChan - 1).val →
              ∀ b x a, (s.arb k).waiting = b ++ x :: a → eligibleAfter b x →
                x.req ≠ .channel d) ∨
        (op.req = .inventory ∧ before = [] ∧ ∀ x ∈ after, x.req = .inventory)) →
      exec (.arbiterGrant k) s = .next
        { s with
          arbs := s.arbs.set k
            { waiting := before ++ after
              lastChan := match op.req with
                | .channel c => c
                | _ => (s.arb k).lastChan
              port := (s.arb k).port ++ [op] } }

/-- R56, R96, R111: a waiting request whose line is free is granted, the earliest first: the place is
CLAIMED with no held write and the owner's read of the line is requested; a scrub whose frame is no longer
in use ends instead and reads nothing. An owner that requests nothing, a request on a line that is not free
and a request behind an earlier one on its line are not granted and leave everything. The command is the
grant standing alone (notes/assumptions/5.md); a test of a line's requests in another event
(`State.testRequests`) makes the same grant: of the earliest request alone, and of the next one if the
earliest was a scrub that ended. -/
def Obligations.FreeLinesAreGrantedToTheEarliestRequest : Prop :=
  ∀ (s : State) (fl : FrameLine),
    (s.lineFree fl = true ↔ (∀ p : Owner, (s.place p).claims fl = false) ∧
      ∀ op ∈ (s.arb (socketOf fl.frame)).waiting ++ (s.arb (socketOf fl.frame)).port,
        op.fl = fl → op.act ≠ .read →
        op.req.isDataPort = false ∧ (op.req = .scrubber → op.standing ≠ .restarted)) ∧
    (s.lineFree fl = false → s.testRequests fl = s) ∧
    ((∀ p : Owner, (s.place p).requests fl = false) → s.testRequests fl = s) ∧
    (∀ o : Owner, (∀ gl, s.place o ≠ .requested gl) → exec (.claimGrant o) s = .next s) ∧
    ∀ o : Owner, s.powered = true → s.place o = .requested fl →
      (s.lineFree fl = false → exec (.claimGrant o) s = .next s) ∧
      (∀ (pre post : List Owner) (p : Owner), s.reqOrder = pre ++ p :: post →
        (∀ q ∈ pre, (s.place q).requests fl = false) → s.place p = .requested fl → p ≠ o →
        exec (.claimGrant o) s = .next s) ∧
      ∀ pre post : List Owner, s.lineFree fl = true → s.reqOrder = pre ++ o :: post →
        (∀ p ∈ pre, (s.place p).requests fl = false) →
        (∀ c : ChanNo, o = .channel c → exec (.claimGrant o) s = .next
          { s with
            places := s.places.set (ownerPlace o) (.claimed fl [])
            reqOrder := s.reqOrder.erase o
            arbs := s.arbs.set (socketOf fl.frame)
              { s.arb (socketOf fl.frame) with
                waiting := (s.arb (socketOf fl.frame)).waiting ++
                  [liveOp (.channel c) fl .read] } }) ∧
        (o = .scrubber → (s.frame fl.frame).state.inUse = true →
          exec (.claimGrant o) s = .next
            { s with
              places := s.places.set (ownerPlace o) (.claimed fl [])
              reqOrder := s.reqOrder.erase o
              scrub := { s.scrub with stage := .reading }
              arbs := s.arbs.set (socketOf fl.frame)
                { s.arb (socketOf fl.frame) with
                  waiting := (s.arb (socketOf fl.frame)).waiting ++
                    [liveOp .scrubber fl .read] } }) ∧
        (o = .scrubber → (s.frame fl.frame).state.inUse = false →
          ∀ p : Scrubber, MovesOn s.scrub p →
          (s.scrub.expiryPending = false → exec (.claimGrant o) s = .next
            { s with
              places := s.places.set (ownerPlace o) .empty
              reqOrder := s.reqOrder.erase o
              scrub := p }) ∧
          (s.scrub.expiryPending = true → exec (.claimGrant o) s = .next
            { s with
              places := s.places.set (ownerPlace o) .empty
              reqOrder := s.reqOrder.erase o
              scrub := { p with expiryPending := false } }.chooseScrub)) ∧
        ((o ≠ .scrubber ∨ (s.frame fl.frame).state.inUse = true ∨
            ∀ p ∈ post, (s.place p).requests fl = false) →
          exec (.claimGrant o) s = .next (s.testRequests fl)) ∧
        (o = .scrubber → (s.frame fl.frame).state.inUse = false →
          ∀ (mid after : List Owner) (q : Owner), post = mid ++ q :: after →
          (∀ p ∈ mid, (s.place p).requests fl = false) → s.place q = .requested fl → q ≠ o →
          ∃ t, exec (.claimGrant o) s = .next t ∧
            exec (.claimGrant q) t = .next (s.testRequests fl))

/-! ## The migration engine -/

/-- R55, R95, R96: a RUNNING channel with no copy in flight asks for its cursor's line of the source: the
claim is granted and the read requested if the line is free, else the request waits. Any other channel
begins nothing. -/
def Obligations.LineCopiesBeginWithAClaim : Prop :=
  ∀ (s : State) (c : ChanNo), s.powered = true →
    ((∀ m f, (s.chan c).state = .running m f → 16384 ≤ m.cursor ∨
        s.place (.channel c) ≠ .empty) → exec (.lineCopyBegin c) s = .next s) ∧
    ∀ (m : Migration) (f : FrameNo) (l : LineNo), (s.chan c).state = .running m f →
      l.val = m.cursor → s.place (.channel c) = .empty →
      (freeForClaim s ⟨f, l⟩ → exec (.lineCopyBegin c) s = .next
        { s with
          places := s.places.set (ownerPlace (.channel c)) (.claimed ⟨f, l⟩ [])
          reqOrder := s.reqOrder.erase (.channel c)
          arbs := s.arbs.set (socketOf f)
            { s.arb (socketOf f) with
              waiting := (s.arb (socketOf f)).waiting ++
                [liveOp (.channel c) ⟨f, l⟩ .read] } }) ∧
      (s.lineFree ⟨f, l⟩ = false → exec (.lineCopyBegin c) s = .next
        { s with
          places := s.places.set (ownerPlace (.channel c)) (.requested ⟨f, l⟩)
          reqOrder := s.reqOrder ++ [.channel c] })

/-- R56, R57, R58, R68, R80, R81: the source's outcome is counted and marked; good data is asked to be
written to the target's line; lost data is asked for as a poison entry, and zeros are written if the
entry is in the list, else the migration aborts POISON_FULL with one advance of the generation. The one order of
the channels still to abort that `AbortLeaves` gives is the model's reading, notes/assumptions/6.md. -/
def Obligations.SourceOutcomesDecideTheTargetWrite : Prop :=
  ∀ (s : State) (k : Socket) (op : ModOp) (rest : List ModOp) (c : ChanNo) (m : Migration)
    (f : FrameNo),
    s.powered = true → (s.arb k).port = op :: rest → op.req = .channel c → op.act = .read →
    op.standing = .live → (s.chan c).state = .running m f →
    (∀ o, o ≠ .uncorrectable → exec (.lineCopyReadOutcome k o) s = .next
      (((s.landed k op rest).takeOutcome op.fl.frame o).request
        (liveOp (.channel c) ⟨m.target, op.fl.line⟩ (.writeLine (s.contents op.fl))))) ∧
    ((m.slice, op.fl.line) ∈ s.poison → exec (.lineCopyReadOutcome k .uncorrectable) s = .next
      (((s.landed k op rest).takeOutcome op.fl.frame .uncorrectable).request
        (liveOp (.channel c) ⟨m.target, op.fl.line⟩
          (.writeLine (Vector.replicate 32 0#64))))) ∧
    ((m.slice, op.fl.line) ∉ s.poison → s.poison.length < 32 →
      exec (.lineCopyReadOutcome k .uncorrectable) s = .next
        ({ (s.landed k op rest).takeOutcome op.fl.frame .uncorrectable with
            poison := s.poison ++ [(m.slice, op.fl.line)]
            flags := ((s.landed k op rest).takeOutcome op.fl.frame .uncorrectable).flags |||
              Flag.poisonAdded.mask
            chans := s.chans.set c
              { s.chan c with
                state := .running { m with poisoned := m.poisoned + 1 } f } }.request
          (liveOp (.channel c) ⟨m.target, op.fl.line⟩
            (.writeLine (Vector.replicate 32 0#64))))) ∧
    (MapLaws s → ClaimLaws s → (m.slice, op.fl.line) ∉ s.poison → 32 ≤ s.poison.length →
      ∀ (u : State) (state' : FrameState),
      u = { (s.landed k op rest).takeOutcome op.fl.frame .uncorrectable with
            generation := s.generation } →
      (s.slice m.slice).loc = .migrating f c →
      (m.origin = .free ∧ state' = .free ∨ m.origin = .spare ∧ state' = .spare) →
      ∃ t, exec (.lineCopyReadOutcome k .uncorrectable) s = .next t ∧
        AbortLeaves u t c m f { u.frame m.target with state := state' } .poisonFull ∧
        t.flags = u.flags ||| Flag.poisonFull.mask ||| Flag.migAborted.mask ∧
        t.cmdQ = s.cmdQ ∧ t.rspQ = s.rspQ)

/-- R55, R59, R98: a target write that does not end the migration lands, the cursor goes up by one, the
claim is released with every write held on it taken again (`State.releasePlace`), and the next line's copy
begins as LINE_COPY_BEGIN begins one; no table of the map changes. -/
def Obligations.CopiedLinesMoveTheCursor : Prop :=
  ∀ (s u : State) (k : Socket) (op : ModOp) (rest : List ModOp) (c : ChanNo) (m : Migration)
    (f : FrameNo) (d : Line) (l : LineNo),
    s.powered = true → (s.arb k).port = op :: rest → op.req = .channel c →
    op.act = .writeLine d → op.standing = .live → (s.chan c).state = .running m f →
    l.val = m.cursor + 1 →
    u = { s.landed k op rest with
          chans := s.chans.set c
            { s.chan c with state := .running { m with cursor := l.val } f } } →
    ∃ t, exec (.lineCopyComplete k) s = .next t ∧
      t = (u.releasePlace (.channel c)).beginCopy c ∧
      exec (.lineCopyBegin c) (u.releasePlace (.channel c)) = .next t ∧
      t = { u with
            ports := t.ports, places := t.places
            reqOrder := t.reqOrder, arbs := t.arbs, scrub := t.scrub } ∧
      t.contents op.fl = d ∧
      (∀ fl, moduleKey fl ≠ moduleKey op.fl → t.contents fl = s.contents fl) ∧
      (t.place (.channel c) = .requested ⟨f, l⟩ ∨ t.place (.channel c) = .claimed ⟨f, l⟩ []) ∧
      (ClaimLaws s →
        (∀ i : Initiator, (t.port i).txn.waitsOn ≠ some (.channel c)) ∧
        ∀ i : Initiator, (s.port i).txn.waitsOn ≠ some (.channel c) → t.port i = s.port i)

/-- R7, R32, R38, R54, R59, R60, R61: the completion that brings the cursor to 16,384 commits: the slice is
MAPPED on the target with its attributes, the target BOUND, the old source FREE or, suspect, RETIRED; the
channel is IDLE and COMMITTED; the channels ARMED behind it start; and the claim is released against the
tables so left, every write held on it taken again (`State.releasePlace`). -/
def Obligations.TheLastLineCommitsTheMigration : Prop :=
  ∀ (s : State) (k : Socket) (op : ModOp) (rest : List ModOp) (c : ChanNo) (m : Migration)
    (f : FrameNo) (d : Line),
    MapLaws s → ClaimLaws s → s.powered = true → (s.arb k).port = op :: rest →
    op.req = .channel c → op.act = .writeLine d → op.standing = .live →
    (s.chan c).state = .running m f → m.cursor + 1 = 16384 →
    ∃ t, exec (.lineCopyComplete k) s = .next t ∧
      t = { s with
            slices := s.slices.set m.slice { s.slice m.slice with loc := .mapped m.target }
            generation := s.generation + 1
            frames := t.frames, retireQ := t.retireQ, flags := t.flags, chans := t.chans
            modules := t.modules, ports := t.ports, places := t.places
            reqOrder := t.reqOrder, arbs := t.arbs, scrub := t.scrub } ∧
      t = { s.landed k op rest with
            slices := t.slices, generation := t.generation, frames := t.frames
            retireQ := t.retireQ, flags := t.flags, chans := t.chans }.releasePlace (.channel c) ∧
      t.frame m.target = { s.frame m.target with state := .bound m.slice } ∧
      ((s.frame f).suspect = none → t.frame f = { s.frame f with state := .free } ∧
        t.retireQ = s.retireQ ∧ t.flags = s.flags ||| Flag.migDone.mask) ∧
      ((s.frame f).suspect ≠ none → t.frame f = { s.frame f with state := .retired } ∧
        t.retireQ = s.retireQWithout f ∧
        t.flags = s.flags ||| Flag.frameRetired.mask ||| Flag.migDone.mask) ∧
      (∀ g : FrameNo, g ≠ f → g ≠ m.target → t.frame g = s.frame g) ∧
      t.chan c = { state := .idle, last := .committed } ∧
      (∀ d : ChanNo, ∀ md : Migration, (s.chan d).state = .armed md → md.after = some c →
        d ∉ s.broken → ∀ src, (s.slice md.slice).loc.source = some src →
          t.chan d = { s.chan d with state := .running md src }) ∧
      (∀ d : ChanNo, d ≠ c → (∀ md : Migration, (s.chan d).state = .armed md →
        md.after ≠ some c ∨ d ∈ s.broken) → t.chan d = s.chan d) ∧
      t.place (.channel c) = .empty ∧
      (∀ i : Initiator, (t.port i).txn.waitsOn ≠ some (.channel c)) ∧
      t.contents op.fl = d ∧
      ∀ fl, moduleKey fl ≠ moduleKey op.fl → t.contents fl = s.contents fl

/-- R63, R64, R66: a channel whose predecessor has aborted aborts CHAIN_BROKEN as an event of its own, the
first of those still to follow; with none to follow nothing happens. The one order of those still to
follow is the model's reading, notes/assumptions/6.md. -/
def Obligations.BrokenChainsAbortLinkByLink : Prop :=
  ∀ s : State, s.powered = true →
    (s.broken = [] → exec .chainBrokenAbort s = .next s) ∧
    ∀ (c : ChanNo) (behind : List ChanNo) (m : Migration) (source : FrameNo)
      (state' : FrameState), MapLaws s → ClaimLaws s → s.broken = c :: behind →
      (s.chan c).state = .armed m → (s.slice m.slice).loc = .migrating source c →
      (m.origin = .free ∧ state' = .free ∨ m.origin = .spare ∧ state' = .spare) →
      ∃ t, exec .chainBrokenAbort s = .next t ∧
        AbortLeaves s t c m source { s.frame m.target with state := state' } .chainBroken ∧
        t.flags = s.flags ||| Flag.migAborted.mask ∧ t.cmdQ = s.cmdQ ∧ t.rspQ = s.rspQ

/-- R39, R72: with auto-retire on, a channel IDLE, a spare and an eligible entry, the dispatcher starts
the oldest eligible entry's slice onto the spare-queue head on the lowest IDLE channel; with one of the
four missing it starts nothing. -/
def Obligations.TheDispatcherStartsTheOldestEligibleEntry : Prop :=
  ∀ s : State, s.powered = true →
    (s.policy.autoRetire = false ∨ (∀ c, (s.chan c).state ≠ .idle) ∨ s.spareQ = [] ∨
      (∀ f ∈ s.retireQ, ∀ i, (s.frame f).state = .bound i →
        ∀ g, (s.slice i).loc ≠ .mapped g) → exec .dispatchStart s = .next s) ∧
    ∀ (before after : List FrameNo) (f target : FrameNo) (q : List FrameNo) (i : SliceNo)
      (g : FrameNo) (c : ChanNo),
      s.policy.autoRetire = true → s.retireQ = before ++ f :: after →
      (∀ b ∈ before, ∀ j, (s.frame b).state = .bound j → ∀ h, (s.slice j).loc ≠ .mapped h) →
      (s.frame f).state = .bound i → (s.slice i).loc = .mapped g →
      s.spareQ = target :: q → (s.frame target).state = .spare → f ≠ target →
      (s.chan c).state = .idle → (∀ d : ChanNo, d < c → (s.chan d).state ≠ .idle) →
      exec .dispatchStart s = .next
        { s with
          slices := s.slices.set i { s.slice i with loc := .migrating f c }
          frames := s.frames.set target { s.frame target with state := .target }
          spareQ := q
          flags := s.flags ||| s.removalFlags q
          chans := s.chans.set c
            { s.chan c with
              state := .running
                { slice := i, target := target, origin := .spare, after := none, by_ := .auto
                  cursor := 0, poisoned := 0 } f }
          generation := s.generation + 1 }

/-- R65, R90, R98: a released write is checked and steered exactly as the same transaction taken anew, and a
claim's writes are released oldest first, its line's requests tested after them; a request given up is
withdrawn, and an EMPTY place has nothing to give up. -/
def Obligations.ReleasedWritesAreTakenAnew : Prop :=
  (∀ (s : State) (i : Initiator) (t : Txn) (o : Owner) (a : PortAccess) (addr : Nat),
    s.powered = true → s.port i = { txn := .held t o, answer := none } →
    addr / 0x400000 = t.slice.val → addr % 0x400000 / 256 = t.line.val →
    ((∃ d, a = .writeLine d ∧ t.op = .writeLine d) ∨
      ∃ d, ∃ w : WordIx, a = .writeWord d ∧ addr % 256 / 8 = w.val ∧ t.op = .writeWord w d) →
    exec (.dataPortTransaction i a addr)
      { s with ports := s.ports.set i { txn := .idle, answer := none } } =
      .next (s.retranslate i)) ∧
  (∀ (s : State) (o : Owner) (fl : FrameLine) (held : List Initiator),
    s.place o = .claimed fl held →
    s.releasePlace o =
      (held.foldl (fun (t : State) i => t.retranslate i)
        { s with places := s.places.set (ownerPlace o) .empty }).testRequests fl) ∧
  (∀ (s : State) (o : Owner) (fl : FrameLine), s.place o = .requested fl →
    s.releasePlace o =
      { s with places := s.places.set (ownerPlace o) .empty, reqOrder := s.reqOrder.erase o }) ∧
  (∀ (s : State) (o : Owner), s.place o = .empty → s.releasePlace o = s) ∧
  ∀ (s : State) (i : Initiator), (∀ t o, (s.port i).txn ≠ .held t o) → s.retranslate i = s

/-! ## The patrol scrubber -/

/-- R110, R111, R98, R115: the line chosen is the position's if its frame is FREE, SPARE or BOUND, else line 0
of the next such frame, up and round past 63 with the pass count up by one; the scrub begins with a claim,
granted at once or waiting; with no such frame none begins. At its end a scrub gives up its claim, every
write held on it taken again (`State.releasePlace`), the position moves on, and a pending expiry begins the next scrub in the
same event; no table of the map changes by it. -/
def Obligations.ScrubsChooseClaimAndMoveOn : Prop :=
  (∀ s : State,
     ((∀ f : FrameNo, (s.frame f).state.inUse = false) → s.chooseScrub =
       { s with scrub := { s.scrub with expiryPending := false } }) ∧
     ∀ (f : FrameNo) (l : LineNo) (n : BitVec 16), (s.frame f).state.inUse = true →
       (f = s.scrub.frame ∧ l = s.scrub.line ∧ n = s.scrub.passCount ∨
         (s.frame s.scrub.frame).state.inUse = false ∧ l = 0 ∧
         (s.scrub.frame < f ∧ n = s.scrub.passCount ∧
             (∀ g : FrameNo, s.scrub.frame < g → g < f → (s.frame g).state.inUse = false) ∨
           f < s.scrub.frame ∧ n = s.scrub.passCount + 1 ∧
             (∀ g : FrameNo, s.scrub.frame < g → (s.frame g).state.inUse = false) ∧
             ∀ g : FrameNo, g < f → (s.frame g).state.inUse = false)) →
       (freeForClaim s ⟨f, l⟩ → s.chooseScrub =
         { s with
           scrub := { s.scrub with frame := f, line := l, passCount := n, stage := .reading }
           places := s.places.set (ownerPlace .scrubber) (.claimed ⟨f, l⟩ [])
           reqOrder := s.reqOrder.erase .scrubber
           arbs := s.arbs.set (socketOf f)
             { s.arb (socketOf f) with
               waiting := (s.arb (socketOf f)).waiting ++
                 [liveOp .scrubber ⟨f, l⟩ .read] } }) ∧
       (s.lineFree ⟨f, l⟩ = false → s.chooseScrub =
         { s with
           scrub := { s.scrub with frame := f, line := l, passCount := n, stage := .claiming }
           places := s.places.set (ownerPlace .scrubber) (.requested ⟨f, l⟩)
           reqOrder := s.reqOrder ++ [.scrubber] })) ∧
  ∀ (s t : State) (fl : FrameLine) (held : List Initiator) (p : Scrubber),
    s.place .scrubber = .claimed fl held → MovesOn s.scrub p → t = s.releasePlace .scrubber →
      t.place .scrubber = .empty ∧
      (ClaimLaws s → ∀ i : Initiator, (t.port i).txn.waitsOn ≠ some .scrubber) ∧
      t = { s with ports := t.ports, places := t.places, reqOrder := t.reqOrder, arbs := t.arbs } ∧
      (s.scrub.expiryPending = false → s.endScrub = { t with scrub := p }) ∧
      (s.scrub.expiryPending = true →
        s.endScrub = { t with scrub := { p with expiryPending := false } }.chooseScrub)

/-- R79, R99, R112, R113, R114: a scrub's outcome is counted and marked; corrected on a frame still in
use, its data is asked to be written back; lost on a BOUND frame, the entry is asked for; and without a
write-back the scrub ends, as it does when the write-back completes. -/
def Obligations.ScrubOutcomesWriteBackOrEnd : Prop :=
  ∀ (s : State) (k : Socket) (op : ModOp) (rest : List ModOp) (u : ReadOutcome → State),
    s.powered = true → (s.arb k).port = op :: rest → op.req = .scrubber →
    op.standing = .live →
    (∀ o, u o = (s.landed k op rest).takeOutcome op.fl.frame o) →
    (op.act ≠ .read →
      exec (.scrubWriteBackComplete k) s = .next (s.landed k op rest).endScrub) ∧
    (op.act = .read →
      exec (.scrubReadOutcome k .clean) s = .next (s.landed k op rest).endScrub ∧
      (((u .corrected).frame op.fl.frame).state.inUse = true →
        exec (.scrubReadOutcome k .corrected) s = .next
          ({ u .corrected with scrub := { s.scrub with stage := .writingBack } }.request
            (liveOp .scrubber op.fl (.writeLine (s.contents op.fl))))) ∧
      (((u .corrected).frame op.fl.frame).state.inUse = false →
        exec (.scrubReadOutcome k .corrected) s = .next (u .corrected).endScrub) ∧
      (((u .uncorrectable).frame op.fl.frame).state.isBound = false →
        exec (.scrubReadOutcome k .uncorrectable) s = .next (u .uncorrectable).endScrub) ∧
      ∀ i, ((u .uncorrectable).frame op.fl.frame).state = .bound i →
        ∀ (list : List (SliceNo × LineNo)) (flag : BitVec 13),
          ((i, op.fl.line) ∈ s.poison ∧ list = s.poison ∧ flag = 0 ∨
            (i, op.fl.line) ∉ s.poison ∧ s.poison.length < 32 ∧
              list = s.poison ++ [(i, op.fl.line)] ∧ flag = Flag.poisonAdded.mask ∨
            (i, op.fl.line) ∉ s.poison ∧ 32 ≤ s.poison.length ∧ list = s.poison ∧
              flag = Flag.poisonFull.mask) →
          exec (.scrubReadOutcome k .uncorrectable) s = .next
            { u .uncorrectable with
              poison := list
              flags := (u .uncorrectable).flags ||| flag }.endScrub)

/-! ## The inventory walk -/

/-- R108, R124, R125, R127, R128: a written line is followed by the write of the next, with the inventory
pattern, and line 16,383 by the read of line 0; each read outcome is counted and marks nothing, an
uncorrectable one fails the frame; after line 16,383 the frame is FREE or, failed, RETIRED with cause
INVENTORY, the generation advances, and the next UNTESTED frame is taken up or the walk ends with the
phase STAGED. That the ended walk keeps its pass, line and failed at their last values is the model's choice,
which R123 leaves open (notes/assumptions/16.md). -/
def Obligations.TheInventoryTestsEachFrame : Prop :=
  (∀ (s : State) (k : Socket) (op : ModOp) (rest : List ModOp) (f : FrameNo),
     s.powered = true → (s.arb k).port = op :: rest → op.req = .inventory → op.act ≠ .read →
     op.standing = .live → s.walk.frame = some f →
     (∀ (l : LineNo) (pattern : Line), l.val = s.walk.line.val + 1 →
       (∀ w : WordIx, pattern[w] =
         BitVec.ofNat 64 (f.val % 16 * 4194304 + l.val * 256 + w.val * 8)) →
       exec (.inventoryWriteComplete k) s = .next
         ({ s.landed k op rest with
             walk := { s.walk with pass := .write, line := l, outstanding := some .write }
           }.request (liveOp .inventory ⟨f, l⟩ (.writeLine pattern)))) ∧
     (s.walk.line.val = 16383 → exec (.inventoryWriteComplete k) s = .next
       ({ s.landed k op rest with
           walk := { s.walk with pass := .read, line := 0, outstanding := some .read }
         }.request (liveOp .inventory ⟨f, 0⟩ .read)))) ∧
  ∀ (s : State) (k : Socket) (op : ModOp) (rest : List ModOp) (f : FrameNo) (o : ReadOutcome)
    (r : FrameRec) (failed : Bool),
    s.powered = true → (s.arb k).port = op :: rest → op.req = .inventory → op.act = .read →
    op.standing = .live → s.walk.frame = some f → r = (s.frame f).counted o →
    failed = (s.walk.failed || decide (o = .uncorrectable)) →
    (∀ l : LineNo, l.val = s.walk.line.val + 1 → exec (.inventoryReadOutcome k o) s = .next
      ({ s.landed k op rest with
          frames := s.frames.set f r
          walk := { s.walk with
            pass := .read, line := l, failed := failed, outstanding := some .read }
        }.request (liveOp .inventory ⟨f, l⟩ .read))) ∧
    (s.walk.line.val = 16383 → ∀ (r' : FrameRec) (flags : BitVec 13),
      (failed = true ∧ r' = { r with state := .retired, suspect := some .inventory } ∧
          flags = s.flags ||| Flag.frameSuspect.mask ||| Flag.frameRetired.mask ∨
        failed = false ∧ r' = { r with state := .free } ∧ flags = s.flags) →
      (∀ g : FrameNo, f < g → (s.frame g).state = .untested →
        (∀ h : FrameNo, f < h → h < g → (s.frame h).state ≠ .untested) →
        exec (.inventoryReadOutcome k o) s = .next
          ({ s.landed k op rest with
              frames := s.frames.set f r'
              flags := flags
              generation := s.generation + 1
              walk := { s.walk with
                frame := some g, pass := .write, line := 0, failed := false
                outstanding := some .write }
            }.request (liveOp .inventory ⟨g, 0⟩ (.writeLine (patternLine ⟨g, 0⟩))))) ∧
      ((∀ g : FrameNo, f < g → (s.frame g).state ≠ .untested) →
        exec (.inventoryReadOutcome k o) s = .next
          { s.landed k op rest with
            frames := s.frames.set f r'
            flags := flags ||| Flag.inventoryDone.mask
            generation := s.generation + 1
            phase := .staged
            scrub := { s.scrub with
              timer := if s.policy.scrubInterval = 0 then none else some 0 }
            walk := { s.walk with
              running := false, frame := none, failed := failed, outstanding := none } }))

/-! ## The whole part -/

/-- The step takes the command at the front of the queue and runs it on the state with the queue's
rest. -/
def Obligations.StepRunsTheFrontCommand : Prop :=
  ∀ (c : Instr) (rest : List Instr) (s : State), s.pending = c :: rest →
    step s = exec c { s with pending := rest }

/-- R108, R109: an expiry with a scrub in flight is left pending; with none it chooses a line; a scrubber that
is not counting takes none. The model's choice (notes/assumptions/4.md): with no command waiting a step is
one microsecond of the timer, an expiry that falls due joins the queue, and the count starts over at each. -/
def Obligations.TheScrubTimerCountsAndExpires : Prop :=
  (∀ s : State, s.pending = [] →
     (s.scrub.timer = none → step s = .next s) ∧
     ∀ n : Nat, s.scrub.timer = some n →
       (n + 1 < s.policy.scrubInterval → step s = .next
         { s with scrub := { s.scrub with timer := some (n + 1) } }) ∧
       (s.policy.scrubInterval ≤ n + 1 → step s = .next
         { s with
           scrub := { s.scrub with timer := some 0 }
           pending := [.scrubTimerExpiry] })) ∧
  ∀ s : State, s.powered = true →
    (s.scrub.timer = none → exec .scrubTimerExpiry s = .next s) ∧
    (s.scrub.timer ≠ none → s.scrub.stage ≠ .none → exec .scrubTimerExpiry s = .next
      { s with scrub := { s.scrub with timer := some 0, expiryPending := true } }) ∧
    (s.scrub.timer ≠ none → s.scrub.stage = .none → exec .scrubTimerExpiry s = .next
      { s with scrub := { s.scrub with timer := some 0 } }.chooseScrub)

/-- No command ends a run: the part answers every condition in its state, and no command touches the
commands that wait. -/
def Obligations.EveryCommandAnswersAndLeavesTheQueue : Prop :=
  ∀ (c : Instr) (s : State), ∃ t, exec c s = .next t ∧ t.pending = s.pending

/-- The laws of the part hold right after reset. The reset state is the model's choice
(notes/assumptions/1.md): the power-on reset of the 40-frame board of the worked examples, with nothing
waiting and the modules unwritten. -/
def Obligations.LawsHoldAtReset : Prop :=
  (∀ s : State, s.pending = [] → s.warmPin = false → s.modules = [] →
     exec (.powerOnReset #v[3, 3, 2, 0]) s = .next State.reset) ∧
  MapLaws State.reset ∧ ClaimLaws State.reset ∧ PortLaws State.reset ∧ RangeLaws State.reset ∧
    modulesWf State.reset.modules

/-- R4, R5, R22, R23, R27, R32, R33, R37, R38, R48, R53, R75, R120, R123, R160: the laws that bind slices,
frames, channels, queues and the poison list are kept by every step from every state that meets them. -/
def Obligations.EveryStepKeepsTheMapConsistent : Prop :=
  ∀ s t : State, MapLaws s → step s = .next t → MapLaws t

/-- R95, R96, R107: never two claims on one frame line, every held write waits on a claim that holds it,
and a request waits only while its line is not free, across every step. -/
def Obligations.EveryStepKeepsTheClaimTable : Prop :=
  ∀ s t : State, ClaimLaws s → step s = .next t → ClaimLaws t

/-- R88, R102: each transaction record agrees with its module operations across every step. -/
def Obligations.EveryStepKeepsTransactionsAndOperationsTogether : Prop :=
  ∀ s t : State, PortLaws s → step s = .next t → PortLaws t

/-- R24, R140, R144, R150, R168: counts, queues and the policy record keep their ranges across every step. The
modules' contents keep their canonical form (notes/assumptions/9.md), a line reads back as written, and no
other line changes by a write. -/
def Obligations.EveryStepKeepsTheRangesAndTheModules : Prop :=
  (∀ s t : State, RangeLaws s → step s = .next t → RangeLaws t) ∧
  (∀ s t : State, modulesWf s.modules → step s = .next t → modulesWf t.modules) ∧
  ∀ (mods : Modules) (k j : Nat) (d : Line), modulesWf mods →
    readLine (storeLine mods k d) j = if j = k then some d else readLine mods j

/-- R9, R76: every command but the power events and the warm restart advances the generation by one if it
makes a map change, and leaves it otherwise. -/
def Obligations.TheGenerationCountsMapChanges : Prop :=
  ∀ (c : Instr) (s t : State), MapLaws s → isPowerEvent c = false → c ≠ .warmRestart →
    exec c s = .next t →
    t.generation = s.generation + (if s.mapChanged t then 1 else 0)

/-- R5, R121: the phase changes at the listed events alone. -/
def Obligations.ThePhaseChangesAtItsEventsAlone : Prop :=
  ∀ (c : Instr) (s t : State), MapLaws s → isPowerEvent c = false → exec c s = .next t →
    t.phase ≠ s.phase →
    (s.phase = .inventory ∧ t.phase = .staged ∧ ∃ k o, c = .inventoryReadOutcome k o) ∨
    (s.phase = .staged ∧ t.phase = .active ∧ (c = .adoptDefault ∨ c = .map)) ∨
    (s.phase = .staged ∧ t.phase = .importing ∧ c = .importBegin) ∨
    (s.phase = .importing ∧ t.phase = .staged ∧
      (c = .importAbort ∨ c = .importRecord ∨ c = .importEnd ∨ c = .warmRestart)) ∨
    (s.phase = .importing ∧ t.phase = .active ∧ c = .importEnd)

/-- R11, R12, R22, R27, R32: short of a power event, a suspect frame keeps its flag and cause, a RETIRED frame
stays RETIRED, an ABSENT one ABSENT, and the map lock stays set; under the lock in ACTIVE no slice is
mapped or unmapped and no attribute changes, while migrations go on. -/
def Obligations.LastingMarksAndTheLock : Prop :=
  (∀ (c : Instr) (s t : State), MapLaws s → isPowerEvent c = false → exec c s = .next t →
     (∀ f : FrameNo,
       (∀ x, (s.frame f).suspect = some x → (t.frame f).suspect = some x) ∧
       ((s.frame f).state = .retired → (t.frame f).state = .retired) ∧
       ((s.frame f).state = .absent ↔ (t.frame f).state = .absent)) ∧
     (s.locked = true → t.locked = true)) ∧
  ∀ (c : Instr) (s t : State), MapLaws s → s.locked = true → s.phase = .active →
    isPowerEvent c = false → exec c s = .next t →
    ∀ i : SliceNo, ((t.slice i).loc = .unmapped ↔ (s.slice i).loc = .unmapped) ∧
      (t.slice i).protect = (s.slice i).protect ∧ (t.slice i).domain = (s.slice i).domain

/-- R101, R174: FAULT rises at an uncorrectable data-port read or a write of FAULT_ENABLE, and at nothing
else: no scrub, line copy or frame test raises it. -/
def Obligations.FaultRisesAtLostReadsOrItsEnableAlone : Prop :=
  ∀ (c : Instr) (s t : State), s.fault = false → exec c s = .next t → t.fault = true →
    (∃ k, c = .dataPortReadOutcome k .uncorrectable) ∨ ∃ a v, c = .faultEnableWrite a v

/-- R87, R100, R101, R103: the only answers that carry data are those of data-port reads whose outcome is clean
or corrected, and they are OKAY; and an initiator with no transaction outstanding is answered nothing and
has none begun, but by its own transaction or a power event. -/
def Obligations.IdleInitiatorsAreLeftAloneDataIsFromGoodReads : Prop :=
  (∀ (c : Instr) (s t : State) (i : Initiator) (a : PortAnswer), exec c s = .next t →
     (t.port i).answer = some a → a.data ≠ .none → (s.port i).answer ≠ some a →
     a.resp = .okay ∧ ∃ k o, c = .dataPortReadOutcome k o ∧ o ≠ .uncorrectable) ∧
  ∀ (c : Instr) (s t : State) (i : Initiator), (s.port i).txn = .idle →
    (∀ a addr, c ≠ .dataPortTransaction i a addr) → isPowerEvent c = false →
    exec c s = .next t → t.port i = s.port i

/-- R24: short of a power event and CLEAR_COUNTS, no count goes down; and no count moves by more than one
but at an import commit. -/
def Obligations.CountsOnlyRise : Prop :=
  ∀ (c : Instr) (s t : State) (f : FrameNo), RangeLaws s → isPowerEvent c = false →
    c ≠ .clearCounts → exec c s = .next t →
    (s.frame f).corrected ≤ (t.frame f).corrected ∧
    (s.frame f).uncorrectable ≤ (t.frame f).uncorrectable ∧
    (c ≠ .importEnd → (t.frame f).corrected + (t.frame f).uncorrectable ≤
      (s.frame f).corrected + (s.frame f).uncorrectable + 1)

/-! ## Formats -/

/-- R1, R2, R156, R176, R180, R181, R182: a logical address gives back its slice, line and word; bytes and
halves of words and records stand where they are put; the codes are those of R180 and R181; and the check
register takes a byte bit by bit, most significant first, and a record byte by byte. -/
def Obligations.FieldsReadBackAsPlaced : Prop :=
  (∀ (i : SliceNo) (l : LineNo) (o : Nat), o < 256 →
    addrSlice (i.val * 0x400000 + l.val * 256 + o) = some i ∧
    addrLine (i.val * 0x400000 + l.val * 256 + o) = l ∧
    (addrWord (i.val * 0x400000 + l.val * 256 + o)).val = o / 8) ∧
  (∀ a : Nat, 0x0C000000 ≤ a → addrSlice a = none) ∧
  (∀ fl gl : FrameLine, moduleKey fl = moduleKey gl → fl = gl) ∧
  (∀ b0 b1 b2 b3 : Nat, b0 < 256 → b1 < 256 → b2 < 256 → b3 < 256 →
    byteOf (word4 b0 b1 b2 b3) 0 = b0 ∧ byteOf (word4 b0 b1 b2 b3) 1 = b1 ∧
    byteOf (word4 b0 b1 b2 b3) 2 = b2 ∧ byteOf (word4 b0 b1 b2 b3) 3 = b3) ∧
  (∀ low high : Nat, low < 65536 → high < 65536 →
    lowHalf (word2 low high) = low ∧ (word2 low high).toNat / 65536 = high) ∧
  (∀ b : Fin 8 → Nat, (∀ n, b n < 256) → ∀ n : Fin 8,
    recByte (record8 (b 0) (b 1) (b 2) (b 3) (b 4) (b 5) (b 6) (b 7)) n.val = b n) ∧
  (∀ (img : Word64) (n : Fin 8), recByte img n.val = (img.extractLsb' (56 - 8 * n.val) 8).toNat) ∧
  ([Status.ok, .badCommand, .badArg, .wrongPhase, .wrongState, .busy, .locked, .noFrame, .noChannel,
    .sequence, .checkFailed, .mismatch, .stale].map Status.code = List.range 13) ∧
  (∀ (f : FrameNo) (c : ChanNo),
    [SliceLoc.unmapped, .mapped f, .migrating f c].map SliceLoc.code = List.range 3) ∧
  (∀ i : SliceNo, [FrameState.absent, .untested, .free, .spare, .bound i, .target, .retired].map
    FrameState.code = List.range 7) ∧
  ([none, some Cause.inventory, some .threshold, some .uncorrectable, some .software,
    some .imported].map causeCode = List.range 6) ∧
  (∀ (m : Migration) (f : FrameNo),
    [ChanState.idle, .armed m, .running m f].map ChanState.code = List.range 3) ∧
  ([LastOutcome.none, .committed, .cancelled, .chainBroken, .targetRetired, .poisonFull,
    .reset].map LastOutcome.code = List.range 7) ∧
  ([Phase.inventory, .staged, .importing, .active].map Phase.code = List.range 4) ∧
  ([Origin.spare, .free].map Origin.code = List.range 2) ∧
  ([InitiatedBy.command, .auto].map InitiatedBy.code = List.range 2) ∧
  (∀ (s : State) (g : BitVec 16) (f : FrameNo) (i : SliceNo) (check : Word32),
    recByte (s.headerRecord g) 0 = 1 ∧ recByte (s.frameRecord f) 0 = 2 ∧
    recByte (s.sliceRecord i) 0 = 3 ∧ recByte (trailerRecord check) 0 = 4) ∧
  (∀ (r : Word32) (b : Byte), crcByte r b = [7, 6, 5, 4, 3, 2, 1, 0].foldl (fun (r : Word32) n =>
    if r.getLsbD 31 = b.getLsbD n then r <<< 1 else (r <<< 1) ^^^ 0x04C11DB7#32) r) ∧
  ∀ (r : Word32) (img : Word64), crcRecord r img = [0, 1, 2, 3, 4, 5, 6, 7].foldl (fun (r : Word32) n =>
    crcByte r (BitVec.ofNat 8 (recByte img n))) r

/-- R155, R159, R182: every record an export session builds reads back as the live record rendered by
R159: TARGET as FREE, an ABSENT frame with counts 0, a MIGRATING slice as mapped; and every byte R182 does not
name is zero. -/
def Obligations.ExportedRecordsReadBack : Prop :=
  ∀ s : State, MapLaws s → RangeLaws s →
    (∀ g : BitVec 16, argRecord (s.headerRecord g) =
      some (.header { present := s.presentCount, generation := g })) ∧
    (∀ f : FrameNo, (s.frame f).state ≠ .untested →
      argRecord (s.frameRecord f) = some (.frame f (s.renderedFrame f))) ∧
    (∀ i : SliceNo, argRecord (s.sliceRecord i) = some (.slice i (s.renderedSlice i))) ∧
    (∀ check : Word32, argRecord (trailerRecord check) = some (.trailer check)) ∧
    (∀ (g : BitVec 16) (n : Nat), n ∈ [3, 6, 7] → recByte (s.headerRecord g) n = 0) ∧
    (∀ (i : SliceNo) (n : Nat), n ∈ [5, 6, 7] → recByte (s.sliceRecord i) n = 0) ∧
    ∀ (check : Word32) (n : Nat), n ∈ [1, 2, 3] → recByte (trailerRecord check) n = 0

/-- R159, R164: an image whose records render a state that meets the part's laws, with every frame tested,
meets every condition of the import's consistency check. -/
def Obligations.ExportedImagesAreConsistent : Prop :=
  ∀ (s : State) (t : ImportSession) (g : BitVec 16), MapLaws s → RangeLaws s →
    (∀ f : FrameNo, (s.frame f).state ≠ .untested) →
    t.header = some { present := s.presentCount, generation := g } →
    (∀ f : FrameNo, t.frames[f] = some (s.renderedFrame f)) →
    (∀ i : SliceNo, t.slices[i] = some (s.renderedSlice i)) →
    t.inconsistent = none
end

