-- ==== Sys2Proof/Laws/State.lean ====
section
/-! SUPPORT. What each plain update of State leaves: one lemma per field and accessor, so that no proof
unfolds a record update. -/

namespace Sys2Proof.Machine.Laws

open Sys2Proof.Machine

variable (s : State)

/-! ## Fields after an update -/

@[simp] theorem setSlice_pending (i : SliceNo) (r : SliceRec) : (s.setSlice i r).pending = s.pending := rfl
@[simp] theorem setSlice_powered (i : SliceNo) (r : SliceRec) : (s.setSlice i r).powered = s.powered := rfl
@[simp] theorem setSlice_warmPin (i : SliceNo) (r : SliceRec) : (s.setSlice i r).warmPin = s.warmPin := rfl
@[simp] theorem setSlice_warmReq (i : SliceNo) (r : SliceRec) : (s.setSlice i r).warmReq = s.warmReq := rfl
@[simp] theorem setSlice_presence (i : SliceNo) (r : SliceRec) : (s.setSlice i r).presence = s.presence := rfl
@[simp] theorem setSlice_generation (i : SliceNo) (r : SliceRec) : (s.setSlice i r).generation = s.generation := rfl
@[simp] theorem setSlice_locked (i : SliceNo) (r : SliceRec) : (s.setSlice i r).locked = s.locked := rfl
@[simp] theorem setSlice_frames (i : SliceNo) (r : SliceRec) : (s.setSlice i r).frames = s.frames := rfl
@[simp] theorem setSlice_spareQ (i : SliceNo) (r : SliceRec) : (s.setSlice i r).spareQ = s.spareQ := rfl
@[simp] theorem setSlice_retireQ (i : SliceNo) (r : SliceRec) : (s.setSlice i r).retireQ = s.retireQ := rfl
@[simp] theorem setSlice_chans (i : SliceNo) (r : SliceRec) : (s.setSlice i r).chans = s.chans := rfl
@[simp] theorem setSlice_broken (i : SliceNo) (r : SliceRec) : (s.setSlice i r).broken = s.broken := rfl
@[simp] theorem setSlice_poison (i : SliceNo) (r : SliceRec) : (s.setSlice i r).poison = s.poison := rfl
@[simp] theorem setSlice_ports (i : SliceNo) (r : SliceRec) : (s.setSlice i r).ports = s.ports := rfl
@[simp] theorem setSlice_places (i : SliceNo) (r : SliceRec) : (s.setSlice i r).places = s.places := rfl
@[simp] theorem setSlice_reqOrder (i : SliceNo) (r : SliceRec) : (s.setSlice i r).reqOrder = s.reqOrder := rfl
@[simp] theorem setSlice_arbs (i : SliceNo) (r : SliceRec) : (s.setSlice i r).arbs = s.arbs := rfl
@[simp] theorem setSlice_modules (i : SliceNo) (r : SliceRec) : (s.setSlice i r).modules = s.modules := rfl
@[simp] theorem setSlice_scrub (i : SliceNo) (r : SliceRec) : (s.setSlice i r).scrub = s.scrub := rfl
@[simp] theorem setSlice_phase (i : SliceNo) (r : SliceRec) : (s.setSlice i r).phase = s.phase := rfl
@[simp] theorem setSlice_walk (i : SliceNo) (r : SliceRec) : (s.setSlice i r).walk = s.walk := rfl
@[simp] theorem setSlice_staging (i : SliceNo) (r : SliceRec) : (s.setSlice i r).staging = s.staging := rfl
@[simp] theorem setSlice_cmdQ (i : SliceNo) (r : SliceRec) : (s.setSlice i r).cmdQ = s.cmdQ := rfl
@[simp] theorem setSlice_rspQ (i : SliceNo) (r : SliceRec) : (s.setSlice i r).rspQ = s.rspQ := rfl
@[simp] theorem setSlice_policy (i : SliceNo) (r : SliceRec) : (s.setSlice i r).policy = s.policy := rfl
@[simp] theorem setSlice_exportS (i : SliceNo) (r : SliceRec) : (s.setSlice i r).exportS = s.exportS := rfl
@[simp] theorem setSlice_importS (i : SliceNo) (r : SliceRec) : (s.setSlice i r).importS = s.importS := rfl
@[simp] theorem setSlice_flags (i : SliceNo) (r : SliceRec) : (s.setSlice i r).flags = s.flags := rfl
@[simp] theorem setSlice_eventEnable (i : SliceNo) (r : SliceRec) : (s.setSlice i r).eventEnable = s.eventEnable := rfl
@[simp] theorem setSlice_faultEnable (i : SliceNo) (r : SliceRec) : (s.setSlice i r).faultEnable = s.faultEnable := rfl
@[simp] theorem setSlice_apReply (i : SliceNo) (r : SliceRec) : (s.setSlice i r).apReply = s.apReply := rfl

@[simp] theorem setFrame_pending (f : FrameNo) (r : FrameRec) : (s.setFrame f r).pending = s.pending := rfl
@[simp] theorem setFrame_powered (f : FrameNo) (r : FrameRec) : (s.setFrame f r).powered = s.powered := rfl
@[simp] theorem setFrame_warmPin (f : FrameNo) (r : FrameRec) : (s.setFrame f r).warmPin = s.warmPin := rfl
@[simp] theorem setFrame_warmReq (f : FrameNo) (r : FrameRec) : (s.setFrame f r).warmReq = s.warmReq := rfl
@[simp] theorem setFrame_presence (f : FrameNo) (r : FrameRec) : (s.setFrame f r).presence = s.presence := rfl
@[simp] theorem setFrame_slices (f : FrameNo) (r : FrameRec) : (s.setFrame f r).slices = s.slices := rfl
@[simp] theorem setFrame_generation (f : FrameNo) (r : FrameRec) : (s.setFrame f r).generation = s.generation := rfl
@[simp] theorem setFrame_locked (f : FrameNo) (r : FrameRec) : (s.setFrame f r).locked = s.locked := rfl
@[simp] theorem setFrame_spareQ (f : FrameNo) (r : FrameRec) : (s.setFrame f r).spareQ = s.spareQ := rfl
@[simp] theorem setFrame_retireQ (f : FrameNo) (r : FrameRec) : (s.setFrame f r).retireQ = s.retireQ := rfl
@[simp] theorem setFrame_chans (f : FrameNo) (r : FrameRec) : (s.setFrame f r).chans = s.chans := rfl
@[simp] theorem setFrame_broken (f : FrameNo) (r : FrameRec) : (s.setFrame f r).broken = s.broken := rfl
@[simp] theorem setFrame_poison (f : FrameNo) (r : FrameRec) : (s.setFrame f r).poison = s.poison := rfl
@[simp] theorem setFrame_ports (f : FrameNo) (r : FrameRec) : (s.setFrame f r).ports = s.ports := rfl
@[simp] theorem setFrame_places (f : FrameNo) (r : FrameRec) : (s.setFrame f r).places = s.places := rfl
@[simp] theorem setFrame_reqOrder (f : FrameNo) (r : FrameRec) : (s.setFrame f r).reqOrder = s.reqOrder := rfl
@[simp] theorem setFrame_arbs (f : FrameNo) (r : FrameRec) : (s.setFrame f r).arbs = s.arbs := rfl
@[simp] theorem setFrame_modules (f : FrameNo) (r : FrameRec) : (s.setFrame f r).modules = s.modules := rfl
@[simp] theorem setFrame_scrub (f : FrameNo) (r : FrameRec) : (s.setFrame f r).scrub = s.scrub := rfl
@[simp] theorem setFrame_phase (f : FrameNo) (r : FrameRec) : (s.setFrame f r).phase = s.phase := rfl
@[simp] theorem setFrame_walk (f : FrameNo) (r : FrameRec) : (s.setFrame f r).walk = s.walk := rfl
@[simp] theorem setFrame_staging (f : FrameNo) (r : FrameRec) : (s.setFrame f r).staging = s.staging := rfl
@[simp] theorem setFrame_cmdQ (f : FrameNo) (r : FrameRec) : (s.setFrame f r).cmdQ = s.cmdQ := rfl
@[simp] theorem setFrame_rspQ (f : FrameNo) (r : FrameRec) : (s.setFrame f r).rspQ = s.rspQ := rfl
@[simp] theorem setFrame_policy (f : FrameNo) (r : FrameRec) : (s.setFrame f r).policy = s.policy := rfl
@[simp] theorem setFrame_exportS (f : FrameNo) (r : FrameRec) : (s.setFrame f r).exportS = s.exportS := rfl
@[simp] theorem setFrame_importS (f : FrameNo) (r : FrameRec) : (s.setFrame f r).importS = s.importS := rfl
@[simp] theorem setFrame_flags (f : FrameNo) (r : FrameRec) : (s.setFrame f r).flags = s.flags := rfl
@[simp] theorem setFrame_eventEnable (f : FrameNo) (r : FrameRec) : (s.setFrame f r).eventEnable = s.eventEnable := rfl
@[simp] theorem setFrame_faultEnable (f : FrameNo) (r : FrameRec) : (s.setFrame f r).faultEnable = s.faultEnable := rfl
@[simp] theorem setFrame_apReply (f : FrameNo) (r : FrameRec) : (s.setFrame f r).apReply = s.apReply := rfl

@[simp] theorem setChan_pending (c : ChanNo) (r : Channel) : (s.setChan c r).pending = s.pending := rfl
@[simp] theorem setChan_powered (c : ChanNo) (r : Channel) : (s.setChan c r).powered = s.powered := rfl
@[simp] theorem setChan_warmPin (c : ChanNo) (r : Channel) : (s.setChan c r).warmPin = s.warmPin := rfl
@[simp] theorem setChan_warmReq (c : ChanNo) (r : Channel) : (s.setChan c r).warmReq = s.warmReq := rfl
@[simp] theorem setChan_presence (c : ChanNo) (r : Channel) : (s.setChan c r).presence = s.presence := rfl
@[simp] theorem setChan_slices (c : ChanNo) (r : Channel) : (s.setChan c r).slices = s.slices := rfl
@[simp] theorem setChan_generation (c : ChanNo) (r : Channel) : (s.setChan c r).generation = s.generation := rfl
@[simp] theorem setChan_locked (c : ChanNo) (r : Channel) : (s.setChan c r).locked = s.locked := rfl
@[simp] theorem setChan_frames (c : ChanNo) (r : Channel) : (s.setChan c r).frames = s.frames := rfl
@[simp] theorem setChan_spareQ (c : ChanNo) (r : Channel) : (s.setChan c r).spareQ = s.spareQ := rfl
@[simp] theorem setChan_retireQ (c : ChanNo) (r : Channel) : (s.setChan c r).retireQ = s.retireQ := rfl
@[simp] theorem setChan_broken (c : ChanNo) (r : Channel) : (s.setChan c r).broken = s.broken := rfl
@[simp] theorem setChan_poison (c : ChanNo) (r : Channel) : (s.setChan c r).poison = s.poison := rfl
@[simp] theorem setChan_ports (c : ChanNo) (r : Channel) : (s.setChan c r).ports = s.ports := rfl
@[simp] theorem setChan_places (c : ChanNo) (r : Channel) : (s.setChan c r).places = s.places := rfl
@[simp] theorem setChan_reqOrder (c : ChanNo) (r : Channel) : (s.setChan c r).reqOrder = s.reqOrder := rfl
@[simp] theorem setChan_arbs (c : ChanNo) (r : Channel) : (s.setChan c r).arbs = s.arbs := rfl
@[simp] theorem setChan_modules (c : ChanNo) (r : Channel) : (s.setChan c r).modules = s.modules := rfl
@[simp] theorem setChan_scrub (c : ChanNo) (r : Channel) : (s.setChan c r).scrub = s.scrub := rfl
@[simp] theorem setChan_phase (c : ChanNo) (r : Channel) : (s.setChan c r).phase = s.phase := rfl
@[simp] theorem setChan_walk (c : ChanNo) (r : Channel) : (s.setChan c r).walk = s.walk := rfl
@[simp] theorem setChan_staging (c : ChanNo) (r : Channel) : (s.setChan c r).staging = s.staging := rfl
@[simp] theorem setChan_cmdQ (c : ChanNo) (r : Channel) : (s.setChan c r).cmdQ = s.cmdQ := rfl
@[simp] theorem setChan_rspQ (c : ChanNo) (r : Channel) : (s.setChan c r).rspQ = s.rspQ := rfl
@[simp] theorem setChan_policy (c : ChanNo) (r : Channel) : (s.setChan c r).policy = s.policy := rfl
@[simp] theorem setChan_exportS (c : ChanNo) (r : Channel) : (s.setChan c r).exportS = s.exportS := rfl
@[simp] theorem setChan_importS (c : ChanNo) (r : Channel) : (s.setChan c r).importS = s.importS := rfl
@[simp] theorem setChan_flags (c : ChanNo) (r : Channel) : (s.setChan c r).flags = s.flags := rfl
@[simp] theorem setChan_eventEnable (c : ChanNo) (r : Channel) : (s.setChan c r).eventEnable = s.eventEnable := rfl
@[simp] theorem setChan_faultEnable (c : ChanNo) (r : Channel) : (s.setChan c r).faultEnable = s.faultEnable := rfl
@[simp] theorem setChan_apReply (c : ChanNo) (r : Channel) : (s.setChan c r).apReply = s.apReply := rfl

@[simp] theorem setPort_pending (i : Initiator) (p : Port) : (s.setPort i p).pending = s.pending := rfl
@[simp] theorem setPort_powered (i : Initiator) (p : Port) : (s.setPort i p).powered = s.powered := rfl
@[simp] theorem setPort_warmPin (i : Initiator) (p : Port) : (s.setPort i p).warmPin = s.warmPin := rfl
@[simp] theorem setPort_warmReq (i : Initiator) (p : Port) : (s.setPort i p).warmReq = s.warmReq := rfl
@[simp] theorem setPort_presence (i : Initiator) (p : Port) : (s.setPort i p).presence = s.presence := rfl
@[simp] theorem setPort_slices (i : Initiator) (p : Port) : (s.setPort i p).slices = s.slices := rfl
@[simp] theorem setPort_generation (i : Initiator) (p : Port) : (s.setPort i p).generation = s.generation := rfl
@[simp] theorem setPort_locked (i : Initiator) (p : Port) : (s.setPort i p).locked = s.locked := rfl
@[simp] theorem setPort_frames (i : Initiator) (p : Port) : (s.setPort i p).frames = s.frames := rfl
@[simp] theorem setPort_spareQ (i : Initiator) (p : Port) : (s.setPort i p).spareQ = s.spareQ := rfl
@[simp] theorem setPort_retireQ (i : Initiator) (p : Port) : (s.setPort i p).retireQ = s.retireQ := rfl
@[simp] theorem setPort_chans (i : Initiator) (p : Port) : (s.setPort i p).chans = s.chans := rfl
@[simp] theorem setPort_broken (i : Initiator) (p : Port) : (s.setPort i p).broken = s.broken := rfl
@[simp] theorem setPort_poison (i : Initiator) (p : Port) : (s.setPort i p).poison = s.poison := rfl
@[simp] theorem setPort_places (i : Initiator) (p : Port) : (s.setPort i p).places = s.places := rfl
@[simp] theorem setPort_reqOrder (i : Initiator) (p : Port) : (s.setPort i p).reqOrder = s.reqOrder := rfl
@[simp] theorem setPort_arbs (i : Initiator) (p : Port) : (s.setPort i p).arbs = s.arbs := rfl
@[simp] theorem setPort_modules (i : Initiator) (p : Port) : (s.setPort i p).modules = s.modules := rfl
@[simp] theorem setPort_scrub (i : Initiator) (p : Port) : (s.setPort i p).scrub = s.scrub := rfl
@[simp] theorem setPort_phase (i : Initiator) (p : Port) : (s.setPort i p).phase = s.phase := rfl
@[simp] theorem setPort_walk (i : Initiator) (p : Port) : (s.setPort i p).walk = s.walk := rfl
@[simp] theorem setPort_staging (i : Initiator) (p : Port) : (s.setPort i p).staging = s.staging := rfl
@[simp] theorem setPort_cmdQ (i : Initiator) (p : Port) : (s.setPort i p).cmdQ = s.cmdQ := rfl
@[simp] theorem setPort_rspQ (i : Initiator) (p : Port) : (s.setPort i p).rspQ = s.rspQ := rfl
@[simp] theorem setPort_policy (i : Initiator) (p : Port) : (s.setPort i p).policy = s.policy := rfl
@[simp] theorem setPort_exportS (i : Initiator) (p : Port) : (s.setPort i p).exportS = s.exportS := rfl
@[simp] theorem setPort_importS (i : Initiator) (p : Port) : (s.setPort i p).importS = s.importS := rfl
@[simp] theorem setPort_flags (i : Initiator) (p : Port) : (s.setPort i p).flags = s.flags := rfl
@[simp] theorem setPort_eventEnable (i : Initiator) (p : Port) : (s.setPort i p).eventEnable = s.eventEnable := rfl
@[simp] theorem setPort_faultEnable (i : Initiator) (p : Port) : (s.setPort i p).faultEnable = s.faultEnable := rfl
@[simp] theorem setPort_apReply (i : Initiator) (p : Port) : (s.setPort i p).apReply = s.apReply := rfl

@[simp] theorem setArb_pending (k : Socket) (a : Arbiter) : (s.setArb k a).pending = s.pending := rfl
@[simp] theorem setArb_powered (k : Socket) (a : Arbiter) : (s.setArb k a).powered = s.powered := rfl
@[simp] theorem setArb_warmPin (k : Socket) (a : Arbiter) : (s.setArb k a).warmPin = s.warmPin := rfl
@[simp] theorem setArb_warmReq (k : Socket) (a : Arbiter) : (s.setArb k a).warmReq = s.warmReq := rfl
@[simp] theorem setArb_presence (k : Socket) (a : Arbiter) : (s.setArb k a).presence = s.presence := rfl
@[simp] theorem setArb_slices (k : Socket) (a : Arbiter) : (s.setArb k a).slices = s.slices := rfl
@[simp] theorem setArb_generation (k : Socket) (a : Arbiter) : (s.setArb k a).generation = s.generation := rfl
@[simp] theorem setArb_locked (k : Socket) (a : Arbiter) : (s.setArb k a).locked = s.locked := rfl
@[simp] theorem setArb_frames (k : Socket) (a : Arbiter) : (s.setArb k a).frames = s.frames := rfl
@[simp] theorem setArb_spareQ (k : Socket) (a : Arbiter) : (s.setArb k a).spareQ = s.spareQ := rfl
@[simp] theorem setArb_retireQ (k : Socket) (a : Arbiter) : (s.setArb k a).retireQ = s.retireQ := rfl
@[simp] theorem setArb_chans (k : Socket) (a : Arbiter) : (s.setArb k a).chans = s.chans := rfl
@[simp] theorem setArb_broken (k : Socket) (a : Arbiter) : (s.setArb k a).broken = s.broken := rfl
@[simp] theorem setArb_poison (k : Socket) (a : Arbiter) : (s.setArb k a).poison = s.poison := rfl
@[simp] theorem setArb_ports (k : Socket) (a : Arbiter) : (s.setArb k a).ports = s.ports := rfl
@[simp] theorem setArb_places (k : Socket) (a : Arbiter) : (s.setArb k a).places = s.places := rfl
@[simp] theorem setArb_reqOrder (k : Socket) (a : Arbiter) : (s.setArb k a).reqOrder = s.reqOrder := rfl
@[simp] theorem setArb_modules (k : Socket) (a : Arbiter) : (s.setArb k a).modules = s.modules := rfl
@[simp] theorem setArb_scrub (k : Socket) (a : Arbiter) : (s.setArb k a).scrub = s.scrub := rfl
@[simp] theorem setArb_phase (k : Socket) (a : Arbiter) : (s.setArb k a).phase = s.phase := rfl
@[simp] theorem setArb_walk (k : Socket) (a : Arbiter) : (s.setArb k a).walk = s.walk := rfl
@[simp] theorem setArb_staging (k : Socket) (a : Arbiter) : (s.setArb k a).staging = s.staging := rfl
@[simp] theorem setArb_cmdQ (k : Socket) (a : Arbiter) : (s.setArb k a).cmdQ = s.cmdQ := rfl
@[simp] theorem setArb_rspQ (k : Socket) (a : Arbiter) : (s.setArb k a).rspQ = s.rspQ := rfl
@[simp] theorem setArb_policy (k : Socket) (a : Arbiter) : (s.setArb k a).policy = s.policy := rfl
@[simp] theorem setArb_exportS (k : Socket) (a : Arbiter) : (s.setArb k a).exportS = s.exportS := rfl
@[simp] theorem setArb_importS (k : Socket) (a : Arbiter) : (s.setArb k a).importS = s.importS := rfl
@[simp] theorem setArb_flags (k : Socket) (a : Arbiter) : (s.setArb k a).flags = s.flags := rfl
@[simp] theorem setArb_eventEnable (k : Socket) (a : Arbiter) : (s.setArb k a).eventEnable = s.eventEnable := rfl
@[simp] theorem setArb_faultEnable (k : Socket) (a : Arbiter) : (s.setArb k a).faultEnable = s.faultEnable := rfl
@[simp] theorem setArb_apReply (k : Socket) (a : Arbiter) : (s.setArb k a).apReply = s.apReply := rfl

@[simp] theorem setPlace_pending (o : Owner) (p : Place) : (s.setPlace o p).pending = s.pending := rfl
@[simp] theorem setPlace_powered (o : Owner) (p : Place) : (s.setPlace o p).powered = s.powered := rfl
@[simp] theorem setPlace_warmPin (o : Owner) (p : Place) : (s.setPlace o p).warmPin = s.warmPin := rfl
@[simp] theorem setPlace_warmReq (o : Owner) (p : Place) : (s.setPlace o p).warmReq = s.warmReq := rfl
@[simp] theorem setPlace_presence (o : Owner) (p : Place) : (s.setPlace o p).presence = s.presence := rfl
@[simp] theorem setPlace_slices (o : Owner) (p : Place) : (s.setPlace o p).slices = s.slices := rfl
@[simp] theorem setPlace_generation (o : Owner) (p : Place) : (s.setPlace o p).generation = s.generation := rfl
@[simp] theorem setPlace_locked (o : Owner) (p : Place) : (s.setPlace o p).locked = s.locked := rfl
@[simp] theorem setPlace_frames (o : Owner) (p : Place) : (s.setPlace o p).frames = s.frames := rfl
@[simp] theorem setPlace_spareQ (o : Owner) (p : Place) : (s.setPlace o p).spareQ = s.spareQ := rfl
@[simp] theorem setPlace_retireQ (o : Owner) (p : Place) : (s.setPlace o p).retireQ = s.retireQ := rfl
@[simp] theorem setPlace_chans (o : Owner) (p : Place) : (s.setPlace o p).chans = s.chans := rfl
@[simp] theorem setPlace_broken (o : Owner) (p : Place) : (s.setPlace o p).broken = s.broken := rfl
@[simp] theorem setPlace_poison (o : Owner) (p : Place) : (s.setPlace o p).poison = s.poison := rfl
@[simp] theorem setPlace_ports (o : Owner) (p : Place) : (s.setPlace o p).ports = s.ports := rfl
@[simp] theorem setPlace_reqOrder (o : Owner) (p : Place) : (s.setPlace o p).reqOrder = s.reqOrder := rfl
@[simp] theorem setPlace_arbs (o : Owner) (p : Place) : (s.setPlace o p).arbs = s.arbs := rfl
@[simp] theorem setPlace_modules (o : Owner) (p : Place) : (s.setPlace o p).modules = s.modules := rfl
@[simp] theorem setPlace_scrub (o : Owner) (p : Place) : (s.setPlace o p).scrub = s.scrub := rfl
@[simp] theorem setPlace_phase (o : Owner) (p : Place) : (s.setPlace o p).phase = s.phase := rfl
@[simp] theorem setPlace_walk (o : Owner) (p : Place) : (s.setPlace o p).walk = s.walk := rfl
@[simp] theorem setPlace_staging (o : Owner) (p : Place) : (s.setPlace o p).staging = s.staging := rfl
@[simp] theorem setPlace_cmdQ (o : Owner) (p : Place) : (s.setPlace o p).cmdQ = s.cmdQ := rfl
@[simp] theorem setPlace_rspQ (o : Owner) (p : Place) : (s.setPlace o p).rspQ = s.rspQ := rfl
@[simp] theorem setPlace_policy (o : Owner) (p : Place) : (s.setPlace o p).policy = s.policy := rfl
@[simp] theorem setPlace_exportS (o : Owner) (p : Place) : (s.setPlace o p).exportS = s.exportS := rfl
@[simp] theorem setPlace_importS (o : Owner) (p : Place) : (s.setPlace o p).importS = s.importS := rfl
@[simp] theorem setPlace_flags (o : Owner) (p : Place) : (s.setPlace o p).flags = s.flags := rfl
@[simp] theorem setPlace_eventEnable (o : Owner) (p : Place) : (s.setPlace o p).eventEnable = s.eventEnable := rfl
@[simp] theorem setPlace_faultEnable (o : Owner) (p : Place) : (s.setPlace o p).faultEnable = s.faultEnable := rfl
@[simp] theorem setPlace_apReply (o : Owner) (p : Place) : (s.setPlace o p).apReply = s.apReply := rfl

@[simp] theorem raise_pending (f : Flag) : (s.raise f).pending = s.pending := rfl
@[simp] theorem raise_powered (f : Flag) : (s.raise f).powered = s.powered := rfl
@[simp] theorem raise_warmPin (f : Flag) : (s.raise f).warmPin = s.warmPin := rfl
@[simp] theorem raise_warmReq (f : Flag) : (s.raise f).warmReq = s.warmReq := rfl
@[simp] theorem raise_presence (f : Flag) : (s.raise f).presence = s.presence := rfl
@[simp] theorem raise_slices (f : Flag) : (s.raise f).slices = s.slices := rfl
@[simp] theorem raise_generation (f : Flag) : (s.raise f).generation = s.generation := rfl
@[simp] theorem raise_locked (f : Flag) : (s.raise f).locked = s.locked := rfl
@[simp] theorem raise_frames (f : Flag) : (s.raise f).frames = s.frames := rfl
@[simp] theorem raise_spareQ (f : Flag) : (s.raise f).spareQ = s.spareQ := rfl
@[simp] theorem raise_retireQ (f : Flag) : (s.raise f).retireQ = s.retireQ := rfl
@[simp] theorem raise_chans (f : Flag) : (s.raise f).chans = s.chans := rfl
@[simp] theorem raise_broken (f : Flag) : (s.raise f).broken = s.broken := rfl
@[simp] theorem raise_poison (f : Flag) : (s.raise f).poison = s.poison := rfl
@[simp] theorem raise_ports (f : Flag) : (s.raise f).ports = s.ports := rfl
@[simp] theorem raise_places (f : Flag) : (s.raise f).places = s.places := rfl
@[simp] theorem raise_reqOrder (f : Flag) : (s.raise f).reqOrder = s.reqOrder := rfl
@[simp] theorem raise_arbs (f : Flag) : (s.raise f).arbs = s.arbs := rfl
@[simp] theorem raise_modules (f : Flag) : (s.raise f).modules = s.modules := rfl
@[simp] theorem raise_scrub (f : Flag) : (s.raise f).scrub = s.scrub := rfl
@[simp] theorem raise_phase (f : Flag) : (s.raise f).phase = s.phase := rfl
@[simp] theorem raise_walk (f : Flag) : (s.raise f).walk = s.walk := rfl
@[simp] theorem raise_staging (f : Flag) : (s.raise f).staging = s.staging := rfl
@[simp] theorem raise_cmdQ (f : Flag) : (s.raise f).cmdQ = s.cmdQ := rfl
@[simp] theorem raise_rspQ (f : Flag) : (s.raise f).rspQ = s.rspQ := rfl
@[simp] theorem raise_policy (f : Flag) : (s.raise f).policy = s.policy := rfl
@[simp] theorem raise_exportS (f : Flag) : (s.raise f).exportS = s.exportS := rfl
@[simp] theorem raise_importS (f : Flag) : (s.raise f).importS = s.importS := rfl
@[simp] theorem raise_eventEnable (f : Flag) : (s.raise f).eventEnable = s.eventEnable := rfl
@[simp] theorem raise_faultEnable (f : Flag) : (s.raise f).faultEnable = s.faultEnable := rfl
@[simp] theorem raise_apReply (f : Flag) : (s.raise f).apReply = s.apReply := rfl

@[simp] theorem clearFlags_pending (v : BitVec 13) : (s.clearFlags v).pending = s.pending := rfl
@[simp] theorem clearFlags_powered (v : BitVec 13) : (s.clearFlags v).powered = s.powered := rfl
@[simp] theorem clearFlags_warmPin (v : BitVec 13) : (s.clearFlags v).warmPin = s.warmPin := rfl
@[simp] theorem clearFlags_warmReq (v : BitVec 13) : (s.clearFlags v).warmReq = s.warmReq := rfl
@[simp] theorem clearFlags_presence (v : BitVec 13) : (s.clearFlags v).presence = s.presence := rfl
@[simp] theorem clearFlags_slices (v : BitVec 13) : (s.clearFlags v).slices = s.slices := rfl
@[simp] theorem clearFlags_generation (v : BitVec 13) : (s.clearFlags v).generation = s.generation := rfl
@[simp] theorem clearFlags_locked (v : BitVec 13) : (s.clearFlags v).locked = s.locked := rfl
@[simp] theorem clearFlags_frames (v : BitVec 13) : (s.clearFlags v).frames = s.frames := rfl
@[simp] theorem clearFlags_spareQ (v : BitVec 13) : (s.clearFlags v).spareQ = s.spareQ := rfl
@[simp] theorem clearFlags_retireQ (v : BitVec 13) : (s.clearFlags v).retireQ = s.retireQ := rfl
@[simp] theorem clearFlags_chans (v : BitVec 13) : (s.clearFlags v).chans = s.chans := rfl
@[simp] theorem clearFlags_broken (v : BitVec 13) : (s.clearFlags v).broken = s.broken := rfl
@[simp] theorem clearFlags_poison (v : BitVec 13) : (s.clearFlags v).poison = s.poison := rfl
@[simp] theorem clearFlags_ports (v : BitVec 13) : (s.clearFlags v).ports = s.ports := rfl
@[simp] theorem clearFlags_places (v : BitVec 13) : (s.clearFlags v).places = s.places := rfl
@[simp] theorem clearFlags_reqOrder (v : BitVec 13) : (s.clearFlags v).reqOrder = s.reqOrder := rfl
@[simp] theorem clearFlags_arbs (v : BitVec 13) : (s.clearFlags v).arbs = s.arbs := rfl
@[simp] theorem clearFlags_modules (v : BitVec 13) : (s.clearFlags v).modules = s.modules := rfl
@[simp] theorem clearFlags_scrub (v : BitVec 13) : (s.clearFlags v).scrub = s.scrub := rfl
@[simp] theorem clearFlags_phase (v : BitVec 13) : (s.clearFlags v).phase = s.phase := rfl
@[simp] theorem clearFlags_walk (v : BitVec 13) : (s.clearFlags v).walk = s.walk := rfl
@[simp] theorem clearFlags_staging (v : BitVec 13) : (s.clearFlags v).staging = s.staging := rfl
@[simp] theorem clearFlags_cmdQ (v : BitVec 13) : (s.clearFlags v).cmdQ = s.cmdQ := rfl
@[simp] theorem clearFlags_rspQ (v : BitVec 13) : (s.clearFlags v).rspQ = s.rspQ := rfl
@[simp] theorem clearFlags_policy (v : BitVec 13) : (s.clearFlags v).policy = s.policy := rfl
@[simp] theorem clearFlags_exportS (v : BitVec 13) : (s.clearFlags v).exportS = s.exportS := rfl
@[simp] theorem clearFlags_importS (v : BitVec 13) : (s.clearFlags v).importS = s.importS := rfl
@[simp] theorem clearFlags_eventEnable (v : BitVec 13) : (s.clearFlags v).eventEnable = s.eventEnable := rfl
@[simp] theorem clearFlags_faultEnable (v : BitVec 13) : (s.clearFlags v).faultEnable = s.faultEnable := rfl
@[simp] theorem clearFlags_apReply (v : BitVec 13) : (s.clearFlags v).apReply = s.apReply := rfl

@[simp] theorem bump_pending : (s.bump).pending = s.pending := rfl
@[simp] theorem bump_powered : (s.bump).powered = s.powered := rfl
@[simp] theorem bump_warmPin : (s.bump).warmPin = s.warmPin := rfl
@[simp] theorem bump_warmReq : (s.bump).warmReq = s.warmReq := rfl
@[simp] theorem bump_presence : (s.bump).presence = s.presence := rfl
@[simp] theorem bump_slices : (s.bump).slices = s.slices := rfl
@[simp] theorem bump_locked : (s.bump).locked = s.locked := rfl
@[simp] theorem bump_frames : (s.bump).frames = s.frames := rfl
@[simp] theorem bump_spareQ : (s.bump).spareQ = s.spareQ := rfl
@[simp] theorem bump_retireQ : (s.bump).retireQ = s.retireQ := rfl
@[simp] theorem bump_chans : (s.bump).chans = s.chans := rfl
@[simp] theorem bump_broken : (s.bump).broken = s.broken := rfl
@[simp] theorem bump_poison : (s.bump).poison = s.poison := rfl
@[simp] theorem bump_ports : (s.bump).ports = s.ports := rfl
@[simp] theorem bump_places : (s.bump).places = s.places := rfl
@[simp] theorem bump_reqOrder : (s.bump).reqOrder = s.reqOrder := rfl
@[simp] theorem bump_arbs : (s.bump).arbs = s.arbs := rfl
@[simp] theorem bump_modules : (s.bump).modules = s.modules := rfl
@[simp] theorem bump_scrub : (s.bump).scrub = s.scrub := rfl
@[simp] theorem bump_phase : (s.bump).phase = s.phase := rfl
@[simp] theorem bump_walk : (s.bump).walk = s.walk := rfl
@[simp] theorem bump_staging : (s.bump).staging = s.staging := rfl
@[simp] theorem bump_cmdQ : (s.bump).cmdQ = s.cmdQ := rfl
@[simp] theorem bump_rspQ : (s.bump).rspQ = s.rspQ := rfl
@[simp] theorem bump_policy : (s.bump).policy = s.policy := rfl
@[simp] theorem bump_exportS : (s.bump).exportS = s.exportS := rfl
@[simp] theorem bump_importS : (s.bump).importS = s.importS := rfl
@[simp] theorem bump_flags : (s.bump).flags = s.flags := rfl
@[simp] theorem bump_eventEnable : (s.bump).eventEnable = s.eventEnable := rfl
@[simp] theorem bump_faultEnable : (s.bump).faultEnable = s.faultEnable := rfl
@[simp] theorem bump_apReply : (s.bump).apReply = s.apReply := rfl

@[simp] theorem bump_generation : s.bump.generation = s.generation + 1 := rfl
@[simp] theorem raise_flags (f : Flag) : (s.raise f).flags = s.flags ||| f.mask := rfl
@[simp] theorem clearFlags_flags (v : BitVec 13) : (s.clearFlags v).flags = s.flags &&& ~~~v := rfl

/-! ## Accessors after an update of another table -/

@[simp] theorem setSlice_frame (i : SliceNo) (r : SliceRec) (x : FrameNo) : (s.setSlice i r).frame x = s.frame x := rfl
@[simp] theorem setSlice_chan (i : SliceNo) (r : SliceRec) (x : ChanNo) : (s.setSlice i r).chan x = s.chan x := rfl
@[simp] theorem setSlice_port (i : SliceNo) (r : SliceRec) (x : Initiator) : (s.setSlice i r).port x = s.port x := rfl
@[simp] theorem setSlice_arb (i : SliceNo) (r : SliceRec) (x : Socket) : (s.setSlice i r).arb x = s.arb x := rfl
@[simp] theorem setSlice_place (i : SliceNo) (r : SliceRec) (x : Owner) : (s.setSlice i r).place x = s.place x := rfl

@[simp] theorem setFrame_slice (f : FrameNo) (r : FrameRec) (x : SliceNo) : (s.setFrame f r).slice x = s.slice x := rfl
@[simp] theorem setFrame_chan (f : FrameNo) (r : FrameRec) (x : ChanNo) : (s.setFrame f r).chan x = s.chan x := rfl
@[simp] theorem setFrame_port (f : FrameNo) (r : FrameRec) (x : Initiator) : (s.setFrame f r).port x = s.port x := rfl
@[simp] theorem setFrame_arb (f : FrameNo) (r : FrameRec) (x : Socket) : (s.setFrame f r).arb x = s.arb x := rfl
@[simp] theorem setFrame_place (f : FrameNo) (r : FrameRec) (x : Owner) : (s.setFrame f r).place x = s.place x := rfl

@[simp] theorem setChan_slice (c : ChanNo) (r : Channel) (x : SliceNo) : (s.setChan c r).slice x = s.slice x := rfl
@[simp] theorem setChan_frame (c : ChanNo) (r : Channel) (x : FrameNo) : (s.setChan c r).frame x = s.frame x := rfl
@[simp] theorem setChan_port (c : ChanNo) (r : Channel) (x : Initiator) : (s.setChan c r).port x = s.port x := rfl
@[simp] theorem setChan_arb (c : ChanNo) (r : Channel) (x : Socket) : (s.setChan c r).arb x = s.arb x := rfl
@[simp] theorem setChan_place (c : ChanNo) (r : Channel) (x : Owner) : (s.setChan c r).place x = s.place x := rfl

@[simp] theorem setPort_slice (i : Initiator) (p : Port) (x : SliceNo) : (s.setPort i p).slice x = s.slice x := rfl
@[simp] theorem setPort_frame (i : Initiator) (p : Port) (x : FrameNo) : (s.setPort i p).frame x = s.frame x := rfl
@[simp] theorem setPort_chan (i : Initiator) (p : Port) (x : ChanNo) : (s.setPort i p).chan x = s.chan x := rfl
@[simp] theorem setPort_arb (i : Initiator) (p : Port) (x : Socket) : (s.setPort i p).arb x = s.arb x := rfl
@[simp] theorem setPort_place (i : Initiator) (p : Port) (x : Owner) : (s.setPort i p).place x = s.place x := rfl

@[simp] theorem setArb_slice (k : Socket) (a : Arbiter) (x : SliceNo) : (s.setArb k a).slice x = s.slice x := rfl
@[simp] theorem setArb_frame (k : Socket) (a : Arbiter) (x : FrameNo) : (s.setArb k a).frame x = s.frame x := rfl
@[simp] theorem setArb_chan (k : Socket) (a : Arbiter) (x : ChanNo) : (s.setArb k a).chan x = s.chan x := rfl
@[simp] theorem setArb_port (k : Socket) (a : Arbiter) (x : Initiator) : (s.setArb k a).port x = s.port x := rfl
@[simp] theorem setArb_place (k : Socket) (a : Arbiter) (x : Owner) : (s.setArb k a).place x = s.place x := rfl

@[simp] theorem setPlace_slice (o : Owner) (p : Place) (x : SliceNo) : (s.setPlace o p).slice x = s.slice x := rfl
@[simp] theorem setPlace_frame (o : Owner) (p : Place) (x : FrameNo) : (s.setPlace o p).frame x = s.frame x := rfl
@[simp] theorem setPlace_chan (o : Owner) (p : Place) (x : ChanNo) : (s.setPlace o p).chan x = s.chan x := rfl
@[simp] theorem setPlace_port (o : Owner) (p : Place) (x : Initiator) : (s.setPlace o p).port x = s.port x := rfl
@[simp] theorem setPlace_arb (o : Owner) (p : Place) (x : Socket) : (s.setPlace o p).arb x = s.arb x := rfl

@[simp] theorem raise_slice (f : Flag) (x : SliceNo) : (s.raise f).slice x = s.slice x := rfl
@[simp] theorem raise_frame (f : Flag) (x : FrameNo) : (s.raise f).frame x = s.frame x := rfl
@[simp] theorem raise_chan (f : Flag) (x : ChanNo) : (s.raise f).chan x = s.chan x := rfl
@[simp] theorem raise_port (f : Flag) (x : Initiator) : (s.raise f).port x = s.port x := rfl
@[simp] theorem raise_arb (f : Flag) (x : Socket) : (s.raise f).arb x = s.arb x := rfl
@[simp] theorem raise_place (f : Flag) (x : Owner) : (s.raise f).place x = s.place x := rfl

@[simp] theorem clearFlags_slice (v : BitVec 13) (x : SliceNo) : (s.clearFlags v).slice x = s.slice x := rfl
@[simp] theorem clearFlags_frame (v : BitVec 13) (x : FrameNo) : (s.clearFlags v).frame x = s.frame x := rfl
@[simp] theorem clearFlags_chan (v : BitVec 13) (x : ChanNo) : (s.clearFlags v).chan x = s.chan x := rfl
@[simp] theorem clearFlags_port (v : BitVec 13) (x : Initiator) : (s.clearFlags v).port x = s.port x := rfl
@[simp] theorem clearFlags_arb (v : BitVec 13) (x : Socket) : (s.clearFlags v).arb x = s.arb x := rfl
@[simp] theorem clearFlags_place (v : BitVec 13) (x : Owner) : (s.clearFlags v).place x = s.place x := rfl

@[simp] theorem bump_slice (x : SliceNo) : (s.bump).slice x = s.slice x := rfl
@[simp] theorem bump_frame (x : FrameNo) : (s.bump).frame x = s.frame x := rfl
@[simp] theorem bump_chan (x : ChanNo) : (s.bump).chan x = s.chan x := rfl
@[simp] theorem bump_port (x : Initiator) : (s.bump).port x = s.port x := rfl
@[simp] theorem bump_arb (x : Socket) : (s.bump).arb x = s.arb x := rfl
@[simp] theorem bump_place (x : Owner) : (s.bump).place x = s.place x := rfl

/-! ## Accessors after an update of their own table -/

@[simp] theorem setSlice_slice (i j : SliceNo) (r : SliceRec) :
    (s.setSlice i r).slice j = if i = j then r else s.slice j := by
  simp [State.slice, State.setSlice, Vector.getElem_set, Fin.ext_iff]

@[simp] theorem setFrame_frame (f g : FrameNo) (r : FrameRec) :
    (s.setFrame f r).frame g = if f = g then r else s.frame g := by
  simp [State.frame, State.setFrame, Vector.getElem_set, Fin.ext_iff]

@[simp] theorem setChan_chan (c d : ChanNo) (r : Channel) :
    (s.setChan c r).chan d = if c = d then r else s.chan d := by
  simp [State.chan, State.setChan, Vector.getElem_set, Fin.ext_iff]

@[simp] theorem setPort_port (i j : Initiator) (p : Port) :
    (s.setPort i p).port j = if i = j then p else s.port j := by
  simp [State.port, State.setPort, Vector.getElem_set, Fin.ext_iff]

@[simp] theorem setArb_arb (k l : Socket) (a : Arbiter) :
    (s.setArb k a).arb l = if k = l then a else s.arb l := by
  simp [State.arb, State.setArb, Vector.getElem_set, Fin.ext_iff]

theorem ownerPlace_injective : Function.Injective ownerPlace := by
  rintro (c | _) (d | _) h
  · revert h; revert c d; decide
  · revert h; revert c; decide
  · revert h; revert d; decide
  · rfl

@[simp] theorem setPlace_place (o p : Owner) (x : Place) :
    (s.setPlace o x).place p = if o = p then x else s.place p := by
  have h : ((ownerPlace o).val = (ownerPlace p).val) = (o = p) := by
    rw [← Fin.ext_iff, ownerPlace_injective.eq_iff]
  simp [State.place, State.setPlace, Vector.getElem_set, h]

@[simp] theorem mem_allOwners (o : Owner) : o ∈ allOwners := by
  rcases o with c | _
  · revert c; decide
  · decide

end Sys2Proof.Machine.Laws
end

