-- ==== Sys2Proof/Laws/Frames.lean ====
section
/-! SUPPORT. What each shared operation may change: for each, one equation that gives the state back
with the changed fields replaced and every other field as it was. A field left alone is one
`congrArg` away. -/

namespace Sys2Proof.Machine.Laws

open Sys2Proof.Machine

theorem raiseIf_frame (s : State) (b : Bool) (f : Flag) :
    s.raiseIf b f =
      { s with
        flags := (s.raiseIf b f).flags } := by
  cases b <;> rfl

theorem bumpIf_frame (s : State) (b : Bool) :
    s.bumpIf b =
      { s with
        generation := (s.bumpIf b).generation } := by
  cases b <;> rfl

theorem setFrameState_frame (s : State) (f : FrameNo) (st : FrameState) :
    s.setFrameState f st =
      { s with
        frames := (s.setFrameState f st).frames } := by
  rfl

theorem setLoc_frame (s : State) (i : SliceNo) (l : SliceLoc) :
    s.setLoc i l =
      { s with
        slices := (s.setLoc i l).slices } := by
  rfl

theorem removeSpare_frame (s : State) (f : FrameNo) :
    s.removeSpare f =
      { s with
        spareQ := (s.removeSpare f).spareQ
        flags := (s.removeSpare f).flags } := by
  unfold State.removeSpare
  rw [raiseIf_frame, raiseIf_frame]

theorem joinSpare_frame (s : State) (f : FrameNo) :
    s.joinSpare f =
      { s with
        frames := (s.joinSpare f).frames
        spareQ := (s.joinSpare f).spareQ } := by
  rfl

theorem retireFrame_frame (s : State) (f : FrameNo) :
    s.retireFrame f =
      { s with
        frames := (s.retireFrame f).frames
        flags := (s.retireFrame f).flags } := by
  rfl

theorem setSuspect_frame (s : State) (f : FrameNo) (c : Cause) :
    s.setSuspect f c =
      { s with
        frames := (s.setSuspect f c).frames
        flags := (s.setSuspect f c).flags } := by
  rfl

theorem markSuspect_frame (s : State) (f : FrameNo) (c : Cause) :
    s.markSuspect f c =
      { s with
        frames := (s.markSuspect f c).frames
        spareQ := (s.markSuspect f c).spareQ
        retireQ := (s.markSuspect f c).retireQ
        flags := (s.markSuspect f c).flags } := by
  unfold State.markSuspect
  split
  · rfl
  · dsimp only
    rw [retireFrame_frame, removeSpare_frame]; rfl
  · dsimp only
    split <;> rfl
  · rfl

theorem leaveRetireQ_frame (s : State) (f : FrameNo) :
    s.leaveRetireQ f =
      { s with
        retireQ := (s.leaveRetireQ f).retireQ } := by
  unfold State.leaveRetireQ
  split
  · dsimp only
    split <;> rfl
  · rfl

theorem releaseFrame_frame (s : State) (f : FrameNo) :
    s.releaseFrame f =
      { s with
        frames := (s.releaseFrame f).frames
        retireQ := (s.releaseFrame f).retireQ
        flags := (s.releaseFrame f).flags } := by
  unfold State.releaseFrame
  split
  · rw [leaveRetireQ_frame]; rfl
  · rfl

theorem countOnly_frame (s : State) (f : FrameNo) (o : ReadOutcome) :
    s.countOnly f o =
      { s with
        frames := (s.countOnly f o).frames } := by
  cases o <;> rfl

theorem countAndMark_frame (s : State) (f : FrameNo) (o : ReadOutcome) :
    s.countAndMark f o =
      { s with
        frames := (s.countAndMark f o).frames
        spareQ := (s.countAndMark f o).spareQ
        retireQ := (s.countAndMark f o).retireQ
        flags := (s.countAndMark f o).flags } := by
  unfold State.countAndMark
  dsimp only
  split
  · rw [markSuspect_frame, countOnly_frame]
  · rw [countOnly_frame]

theorem takeOutcome_frame (s : State) (f : FrameNo) (o : ReadOutcome) :
    s.takeOutcome f o =
      { s with
        generation := (s.takeOutcome f o).generation
        frames := (s.takeOutcome f o).frames
        spareQ := (s.takeOutcome f o).spareQ
        retireQ := (s.takeOutcome f o).retireQ
        flags := (s.takeOutcome f o).flags } := by
  unfold State.takeOutcome
  rw [bumpIf_frame, countAndMark_frame]

theorem addPoison_frame (s : State) (i : SliceNo) (l : LineNo) :
    s.addPoison i l =
      { s with
        poison := (s.addPoison i l).poison
        flags := (s.addPoison i l).flags } := by
  unfold State.addPoison
  split <;> rfl

theorem dropPoison_frame (s : State) (i : SliceNo) (l : LineNo) :
    s.dropPoison i l =
      { s with
        poison := (s.dropPoison i l).poison } := by
  rfl

theorem request_frame (s : State) (op : ModOp) :
    s.request op =
      { s with
        arbs := (s.request op).arbs } := by
  rfl

theorem complete_frame (s : State) (k : Socket) (op : ModOp) :
    s.complete k op =
      { s with
        arbs := (s.complete k op).arbs
        modules := (s.complete k op).modules } := by
  unfold State.complete
  dsimp only
  split <;> rfl

theorem unorder_frame (s : State) (o : Owner) :
    s.unorder o =
      { s with
        reqOrder := (s.unorder o).reqOrder } := by
  rfl

theorem claimAndRead_frame (s : State) (o : Owner) (fl : FrameLine) :
    s.claimAndRead o fl =
      { s with
        places := (s.claimAndRead o fl).places
        reqOrder := (s.claimAndRead o fl).reqOrder
        arbs := (s.claimAndRead o fl).arbs
        scrub := (s.claimAndRead o fl).scrub } := by
  cases o <;> rfl

theorem askClaim_frame (s : State) (o : Owner) (fl : FrameLine) :
    s.askClaim o fl =
      { s with
        places := (s.askClaim o fl).places
        reqOrder := (s.askClaim o fl).reqOrder } := by
  rfl

theorem askAndTest_frame (s : State) (o : Owner) (fl : FrameLine) :
    s.askAndTest o fl =
      { s with
        places := (s.askAndTest o fl).places
        reqOrder := (s.askAndTest o fl).reqOrder
        arbs := (s.askAndTest o fl).arbs
        scrub := (s.askAndTest o fl).scrub } := by
  unfold State.askAndTest
  split
  · exact claimAndRead_frame s o fl
  · rfl

theorem beginScrub_frame (s : State) :
    s.beginScrub =
      { s with
        places := (s.beginScrub).places
        reqOrder := (s.beginScrub).reqOrder
        arbs := (s.beginScrub).arbs
        scrub := (s.beginScrub).scrub } := by
  unfold State.beginScrub
  rw [askAndTest_frame]

theorem chooseScrub_frame (s : State) :
    s.chooseScrub =
      { s with
        places := (s.chooseScrub).places
        reqOrder := (s.chooseScrub).reqOrder
        arbs := (s.chooseScrub).arbs
        scrub := (s.chooseScrub).scrub } := by
  unfold State.chooseScrub
  split
  · exact beginScrub_frame s
  · split
    · rw [beginScrub_frame]
    · rfl

theorem finishScrub_frame (s : State) :
    s.finishScrub =
      { s with
        places := (s.finishScrub).places
        reqOrder := (s.finishScrub).reqOrder
        arbs := (s.finishScrub).arbs
        scrub := (s.finishScrub).scrub } := by
  unfold State.finishScrub
  dsimp only
  split
  · rw [chooseScrub_frame]
  · rfl

theorem grantClaim_frame (s : State) (o : Owner) (fl : FrameLine) :
    s.grantClaim o fl =
      { s with
        places := (s.grantClaim o fl).places
        reqOrder := (s.grantClaim o fl).reqOrder
        arbs := (s.grantClaim o fl).arbs
        scrub := (s.grantClaim o fl).scrub } := by
  unfold State.grantClaim
  split
  · exact claimAndRead_frame s _ fl
  · split
    · exact claimAndRead_frame s _ fl
    · rw [finishScrub_frame]; rfl

theorem testOne_frame (s : State) (fl : FrameLine) (o : Owner) :
    s.testOne fl o =
      { s with
        places := (s.testOne fl o).places
        reqOrder := (s.testOne fl o).reqOrder
        arbs := (s.testOne fl o).arbs
        scrub := (s.testOne fl o).scrub } := by
  unfold State.testOne
  split
  · exact grantClaim_frame s o fl
  · rfl

theorem testFold_frame (fl : FrameLine) (l : List Owner) (s : State) :
    l.foldl (fun t o => t.testOne fl o) s =
      { s with
        places := (l.foldl (fun t o => t.testOne fl o) s).places
        reqOrder := (l.foldl (fun t o => t.testOne fl o) s).reqOrder
        arbs := (l.foldl (fun t o => t.testOne fl o) s).arbs
        scrub := (l.foldl (fun t o => t.testOne fl o) s).scrub } := by
  induction l generalizing s with
  | nil => rfl
  | cons o l ih => rw [List.foldl_cons, ih, testOne_frame]

theorem testRequests_frame (s : State) (fl : FrameLine) :
    s.testRequests fl =
      { s with
        places := (s.testRequests fl).places
        reqOrder := (s.testRequests fl).reqOrder
        arbs := (s.testRequests fl).arbs
        scrub := (s.testRequests fl).scrub } := by
  exact testFold_frame fl s.reqOrder s

theorem answer_frame (s : State) (i : Initiator) (r : PortResp) (d : PortData) :
    s.answer i r d =
      { s with
        ports := (s.answer i r d).ports } := by
  rfl

theorem hold_frame (s : State) (i : Initiator) (t : Txn) (o : Owner) :
    s.hold i t o =
      { s with
        ports := (s.hold i t o).ports
        places := (s.hold i t o).places } := by
  unfold State.hold
  dsimp only
  split <;> rfl

theorem issue_frame (s : State) (i : Initiator) (t : Txn) (f : FrameNo) (g : Option FrameNo) :
    s.issue i t f g =
      { s with
        ports := (s.issue i t f g).ports
        arbs := (s.issue i t f g).arbs } := by
  cases g <;> rfl

theorem steerWrite_frame (s : State) (i : Initiator) (t : Txn) (f : FrameNo) (g : Option FrameNo) :
    s.steerWrite i t f g =
      { s with
        ports := (s.steerWrite i t f g).ports
        places := (s.steerWrite i t f g).places
        arbs := (s.steerWrite i t f g).arbs } := by
  unfold State.steerWrite
  split
  · rw [hold_frame]
  · rw [issue_frame]

theorem steer_frame (s : State) (i : Initiator) (t : Txn) :
    s.steer i t =
      { s with
        ports := (s.steer i t).ports
        places := (s.steer i t).places
        arbs := (s.steer i t).arbs } := by
  unfold State.steer
  split
  · rfl
  · split
    · exact steerWrite_frame s i t _ none
    · rw [issue_frame]
  · split
    · exact steerWrite_frame s i t _ _
    · rw [issue_frame]

theorem admit_frame (s : State) (i : Initiator) (t : Txn) :
    s.checkAndSteer i t =
      { s with
        ports := (s.checkAndSteer i t).ports
        places := (s.checkAndSteer i t).places
        arbs := (s.checkAndSteer i t).arbs } := by
  unfold State.checkAndSteer
  split
  · rfl
  · exact steer_frame s i t

theorem retranslate_frame (s : State) (i : Initiator) :
    s.retranslate i =
      { s with
        ports := (s.retranslate i).ports
        places := (s.retranslate i).places
        arbs := (s.retranslate i).arbs } := by
  unfold State.retranslate
  split
  · exact admit_frame s i _
  · rfl

theorem retranslateFold_frame (l : List Initiator) (s : State) :
    l.foldl (fun t i => t.retranslate i) s =
      { s with
        ports := (l.foldl (fun t i => t.retranslate i) s).ports
        places := (l.foldl (fun t i => t.retranslate i) s).places
        arbs := (l.foldl (fun t i => t.retranslate i) s).arbs } := by
  induction l generalizing s with
  | nil => rfl
  | cons i l ih => rw [List.foldl_cons, ih, retranslate_frame]

theorem releasePlace_frame (s : State) (o : Owner) :
    s.releasePlace o =
      { s with
        ports := (s.releasePlace o).ports
        places := (s.releasePlace o).places
        reqOrder := (s.releasePlace o).reqOrder
        arbs := (s.releasePlace o).arbs
        scrub := (s.releasePlace o).scrub } := by
  unfold State.releasePlace
  split
  · rfl
  · rfl
  · rw [testRequests_frame, retranslateFold_frame]; rfl

theorem endScrub_frame (s : State) :
    s.endScrub =
      { s with
        ports := (s.endScrub).ports
        places := (s.endScrub).places
        reqOrder := (s.endScrub).reqOrder
        arbs := (s.endScrub).arbs
        scrub := (s.endScrub).scrub } := by
  unfold State.endScrub
  rw [finishScrub_frame, releasePlace_frame]

theorem beginCopy_frame (s : State) (c : ChanNo) :
    s.beginCopy c =
      { s with
        places := (s.beginCopy c).places
        reqOrder := (s.beginCopy c).reqOrder
        arbs := (s.beginCopy c).arbs
        scrub := (s.beginCopy c).scrub } := by
  unfold State.beginCopy
  split
  · exact askAndTest_frame s _ _
  · rfl

theorem startChannel_frame (s : State) (c : ChanNo) :
    s.startChannel c =
      { s with
        chans := (s.startChannel c).chans } := by
  unfold State.startChannel
  split
  · split <;> rfl
  · rfl

theorem revertSlice_frame (s : State) (i : SliceNo) :
    s.revertSlice i =
      { s with
        slices := (s.revertSlice i).slices } := by
  unfold State.revertSlice
  split <;> rfl

theorem returnTarget_frame (s : State) (m : Migration) (cause : LastOutcome) :
    s.returnTarget m cause =
      { s with
        frames := (s.returnTarget m cause).frames
        spareQ := (s.returnTarget m cause).spareQ
        flags := (s.returnTarget m cause).flags } := by
  unfold State.returnTarget
  split
  · rfl
  · split <;> rfl

theorem abortRecords_frame (s : State) (c : ChanNo) (cause : LastOutcome) :
    s.abortRecords c cause =
      { s with
        slices := (s.abortRecords c cause).slices
        generation := (s.abortRecords c cause).generation
        frames := (s.abortRecords c cause).frames
        spareQ := (s.abortRecords c cause).spareQ
        chans := (s.abortRecords c cause).chans
        broken := (s.abortRecords c cause).broken
        flags := (s.abortRecords c cause).flags } := by
  unfold State.abortRecords
  split
  · rfl
  · dsimp only
    rw [raiseIf_frame, returnTarget_frame, revertSlice_frame]; rfl

theorem abandonCopy_frame (s : State) (c : ChanNo) :
    s.abandonCopy c =
      { s with
        ports := (s.abandonCopy c).ports
        places := (s.abandonCopy c).places
        reqOrder := (s.abandonCopy c).reqOrder
        arbs := (s.abandonCopy c).arbs
        scrub := (s.abandonCopy c).scrub } := by
  unfold State.abandonCopy
  rw [releasePlace_frame]

theorem abortChannel_frame (s : State) (c : ChanNo) (cause : LastOutcome) :
    s.abortChannel c cause =
      { s with
        slices := (s.abortChannel c cause).slices
        generation := (s.abortChannel c cause).generation
        frames := (s.abortChannel c cause).frames
        spareQ := (s.abortChannel c cause).spareQ
        chans := (s.abortChannel c cause).chans
        broken := (s.abortChannel c cause).broken
        ports := (s.abortChannel c cause).ports
        places := (s.abortChannel c cause).places
        reqOrder := (s.abortChannel c cause).reqOrder
        arbs := (s.abortChannel c cause).arbs
        scrub := (s.abortChannel c cause).scrub
        flags := (s.abortChannel c cause).flags } := by
  unfold State.abortChannel
  rw [abandonCopy_frame, abortRecords_frame]

theorem takeTarget_frame (s : State) (f : FrameNo) :
    s.takeTarget f =
      { s with
        frames := (s.takeTarget f).frames
        spareQ := (s.takeTarget f).spareQ
        flags := (s.takeTarget f).flags } := by
  unfold State.takeTarget
  split
  · rw [removeSpare_frame]; rfl
  · rfl

theorem setUpMigration_frame (s : State) (i : SliceNo) (f g : FrameNo) (c : ChanNo) (j : Option ChanNo) (b : InitiatedBy) :
    s.setUpMigration i f g c j b =
      { s with
        slices := (s.setUpMigration i f g c j b).slices
        generation := (s.setUpMigration i f g c j b).generation
        frames := (s.setUpMigration i f g c j b).frames
        spareQ := (s.setUpMigration i f g c j b).spareQ
        chans := (s.setUpMigration i f g c j b).chans
        flags := (s.setUpMigration i f g c j b).flags } := by
  unfold State.setUpMigration
  dsimp only
  rw [takeTarget_frame]; rfl

theorem startScrubber_frame (s : State) :
    s.startScrubber =
      { s with
        scrub := (s.startScrubber).scrub } := by
  rfl

theorem stopScrubber_frame (s : State) :
    s.stopScrubber =
      { s with
        scrub := (s.stopScrubber).scrub } := by
  rfl

end Sys2Proof.Machine.Laws
end

