-- ==== Sys2Proof/Laws/Ops.lean ====
section
/-! SUPPORT. What each shared operation does, said once, so that proofs cite it and do not unfold the
operation. -/

namespace Sys2Proof.Machine.Laws

open Sys2Proof Sys2Proof.Machine

/-! ## Arguments of command words -/

theorem argSlice_of_eq {n : Nat} {i : SliceNo} (h : n = i.val) : argSlice n = some i := by
  subst h; simp [argSlice]

theorem argFrame_of_eq {n : Nat} {f : FrameNo} (h : n = f.val) : argFrame n = some f := by
  subst h; simp [argFrame]

theorem argChan_of_eq {n : Nat} {c : ChanNo} (h : n = c.val) : argChan n = some c := by
  subst h; simp [argChan]

theorem argLine_of_eq {n : Nat} {l : LineNo} (h : n = l.val) : argLine n = some l := by
  subst h; simp [argLine]

theorem argSlice_out {n : Nat} (h : 47 < n) : argSlice n = none := by simp [argSlice]; omega
theorem argFrame_out {n : Nat} (h : 63 < n) : argFrame n = none := by simp [argFrame]; omega
theorem argChan_out {n : Nat} (h : 3 < n) : argChan n = none := by simp [argChan]; omega
theorem argLine_out {n : Nat} (h : 16383 < n) : argLine n = none := by simp [argLine]; omega

/-! ## Taking a command -/

/-- The word at the head is taken: the command runs with the queue's rest, and its response joins. -/
theorem takeCommand_taken {s : State} {code : Byte} {w : CmdWord} {rest : List CmdWord}
    (h : Takes s code w rest) (forCode : Byte → Bool) (hf : forCode code = true)
    (run : CmdWord → State → CmdOut) :
    s.takeCommand forCode run = (run w { s with cmdQ := rest }).respond w := by
  obtain ⟨hp, hq, hc, hr⟩ := h
  simp [State.takeCommand, State.whenOn, hp, hq, hc, hr, hf]

theorem guarded_out {s : State} {ps : List Phase} {b : Bool} {run : CmdOut}
    (h : s.phase ∉ ps) : s.guarded ps b run = s.refuse .wrongPhase := by
  simp [State.guarded, State.inPhase, h]

theorem guarded_locked {s : State} {ps : List Phase} {run : CmdOut}
    (h : s.phase ∈ ps) (hl : s.locked = true) : s.guarded ps true run = s.refuse .locked := by
  simp [State.guarded, State.inPhase, h, hl]

theorem guarded_in {s : State} {ps : List Phase} {b : Bool} {run : CmdOut}
    (h : s.phase ∈ ps) (hl : b = false ∨ s.locked = false) : s.guarded ps b run = run := by
  rcases hl with hl | hl <;> simp [State.guarded, State.inPhase, h, hl]

/-! ## The spare queue -/

theorem removeSpare_eq (s : State) (f : FrameNo) :
    s.removeSpare f =
      { s with
        spareQ := s.spareQ.erase f
        flags := s.flags ||| s.removalFlags (s.spareQ.erase f) } := by
  unfold State.removeSpare State.removalFlags flagIf
  simp only [State.raiseIf, State.raise]
  split <;> split <;> simp [*, BitVec.or_assoc]

/-! ## Marking and release -/

/-- A FREE frame marked is retired. -/
theorem markSuspect_free (s : State) (f : FrameNo) (c : Cause) (h : (s.frame f).state = .free) :
    s.markSuspect f c =
      { s with
        frames := s.frames.set f { s.frame f with state := .retired, suspect := some c }
        flags := s.flags ||| Flag.frameSuspect.mask ||| Flag.frameRetired.mask } := by
  simp only [State.markSuspect, h]
  simp [State.setSuspect, State.retireFrame, State.raise, State.setFrameState, State.setFrame,
    State.frame]

/-- A SPARE frame marked leaves the spare queue and is retired. -/
theorem markSuspect_spare (s : State) (f : FrameNo) (c : Cause) (h : (s.frame f).state = .spare) :
    s.markSuspect f c =
      { s with
        frames := s.frames.set f { s.frame f with state := .retired, suspect := some c }
        spareQ := s.spareQ.erase f
        flags := s.flags ||| Flag.frameSuspect.mask ||| s.removalFlags (s.spareQ.erase f) |||
          Flag.frameRetired.mask } := by
  simp only [State.markSuspect, h, removeSpare_eq]
  simp [State.setSuspect, State.retireFrame, State.raise, State.setFrameState, State.setFrame,
    State.frame]
  rfl

/-- A BOUND frame marked joins the retire queue if there is room. -/
theorem markSuspect_bound (s : State) (f : FrameNo) (c : Cause) (i : SliceNo)
    (h : (s.frame f).state = .bound i) :
    s.markSuspect f c =
      { s with
        frames := s.frames.set f { s.frame f with suspect := some c }
        retireQ := if s.retireQ.length < 8 then s.retireQ ++ [f] else s.retireQ
        flags := s.flags ||| Flag.frameSuspect.mask } := by
  simp only [State.markSuspect, h]
  by_cases hl : s.retireQ.length < 8 <;>
    simp [State.setSuspect, State.raise, State.setFrame, Config.retireCapacity, hl, ← h]

/-- A frame that is not suspect is released FREE. -/
theorem releaseFrame_clean (s : State) (f : FrameNo) (h : (s.frame f).suspect = none) :
    s.releaseFrame f = { s with frames := s.frames.set f { s.frame f with state := .free } } := by
  simp [State.releaseFrame, h, State.setFrameState, State.setFrame]

/-- A suspect frame is released RETIRED, and the retire queue closes up and refills. -/
theorem releaseFrame_suspect (s : State) (f : FrameNo) (c : Cause)
    (h : (s.frame f).suspect = some c) :
    s.releaseFrame f =
      { s with
        frames := s.frames.set f { s.frame f with state := .retired }
        flags := s.flags ||| Flag.frameRetired.mask
        retireQ := s.retireQWithout f } := by
  have hfun : ∀ g : FrameNo,
      ({ s.retireFrame f with retireQ := s.retireQ.erase f }).waitsUnqueued g =
        decide (g ≠ f ∧ s.suspectBound g ∧ g ∉ s.retireQ) := by
    intro g
    by_cases hg : g = f
    · subst hg
      simp [State.waitsUnqueued, State.retireFrame, State.raise, FrameState.isBound, State.frame,
        State.setFrameState, State.setFrame]
    · have hv : ¬f.val = g.val := fun e => hg (Fin.ext e.symm)
      have hfr : (({ s.retireFrame f with retireQ := s.retireQ.erase f } : State).frame g) =
          s.frame g := by
        simp [State.retireFrame, State.raise, State.frame, State.setFrameState, State.setFrame, hv]
      simp only [State.waitsUnqueued, hfr]
      by_cases hb : s.suspectBound g <;> by_cases hm : g ∈ s.retireQ <;>
        simp_all [List.mem_erase_of_ne, State.suspectBound]
  have hq : (s.retireFrame f).retireQ = s.retireQ := rfl
  unfold State.releaseFrame State.leaveRetireQ State.retireQWithout
  simp only [h, Option.isSome_some, if_true, hq, List.contains_eq_mem, decide_eq_true_eq,
    funext hfun]
  by_cases hm : f ∈ s.retireQ
  · simp only [hm, if_true]
    split <;> rename_i hh <;> rw [hh] <;>
      simp [State.retireFrame, State.raise, State.setFrameState, State.setFrame, h]
  · simp [hm, State.retireFrame, State.raise, State.setFrameState, State.setFrame, h]

/-! ## Module operations -/

theorem nextOp_of_port {s : State} {k : Socket} {op : ModOp} {rest : List ModOp}
    (h : (s.arb k).port = op :: rest) : s.nextOp k = some op := by
  simp [State.nextOp, h]

theorem complete_eq_landed {s : State} {k : Socket} {op : ModOp} {rest : List ModOp}
    (h : (s.arb k).port = op :: rest) : s.complete k op = s.landed k op rest := by
  unfold State.complete State.landed
  cases ha : op.act <;> simp [h, OpAct.isWrite, State.setArb, OpAct.result]

/-! ## Claims -/

theorem claimOn_none {s : State} {fl : FrameLine} :
    s.claimOn fl = none ↔ ∀ o : Owner, (s.place o).claims fl = false := by
  simp only [State.claimOn, List.find?_eq_none, Bool.not_eq_true]
  exact ⟨fun h o => h o (mem_allOwners o), fun h o _ => h o⟩

theorem claimOn_some {s : State} {fl : FrameLine} {o : Owner} (h : s.claimOn fl = some o) :
    (s.place o).claims fl = true := List.find?_some (p := fun o => (s.place o).claims fl) h

/-- Under R95's law the claim on a line is the one that claims it. -/
theorem claimOn_of_claims {s : State} {fl : FrameLine} {o : Owner} (ha : claimsApart s)
    (h : (s.place o).claims fl = true) : s.claimOn fl = some o := by
  cases hc : s.claimOn fl with
  | none => rw [claimOn_none.1 hc o] at h; cases h
  | some p => rw [ha o p fl h (claimOn_some hc)]

/-- R96: with no request on a line, testing the line's requests changes nothing. -/
theorem testRequests_none (s : State) (fl : FrameLine)
    (h : ∀ o : Owner, (s.place o).requests fl = false) : s.testRequests fl = s := by
  unfold State.testRequests
  generalize s.reqOrder = l
  induction l with
  | nil => rfl
  | cons o l ih => rw [List.foldl_cons, State.testOne]; simp [h o, ih]

/-- A claim asked for on a line that is free and not waited on is granted at once. -/
theorem askAndTest_free {s : State} {o : Owner} {fl : FrameLine} (h : freeForClaim s fl) :
    s.askAndTest o fl = s.claimAndRead o fl := by
  simp [State.askAndTest, h.1, h.2]

/-- A claim asked for on a line that is not free waits. -/
theorem askAndTest_busy {s : State} {o : Owner} {fl : FrameLine} (h : s.lineFree fl = false) :
    s.askAndTest o fl = s.askClaim o fl := by
  simp [State.askAndTest, h]

/-! ## Places of the claim table -/

@[simp] theorem setPlace_place_self (s : State) (o : Owner) (x : Place) :
    (s.setPlace o x).place o = x := by
  simp [State.place, State.setPlace]

theorem setPlace_place_of_ne {s : State} {o p : Owner} (h : p ≠ o) (x : Place) :
    (s.setPlace o x).place p = s.place p := by
  have : (ownerPlace o).val ≠ (ownerPlace p).val := by
    revert h; rcases o with c | _ <;> rcases p with d | _
    · revert c d; decide
    · revert c; decide
    · revert d; decide
    · simp
  simp only [State.place, State.setPlace]
  exact Vector.getElem_set_ne _ _ this

theorem claimAndRead_place_of_ne {s : State} {o p : Owner} {fl : FrameLine} (h : p ≠ o) :
    (s.claimAndRead o fl).place p = s.place p := by
  have : (s.claimAndRead o fl).place p =
      ((s.unorder o).setPlace o (.claimed fl [])).place p := by cases o <;> rfl
  rw [this, setPlace_place_of_ne h]; rfl

theorem askAndTest_place_of_ne {s : State} {o p : Owner} {fl : FrameLine} (h : p ≠ o) :
    (s.askAndTest o fl).place p = s.place p := by
  unfold State.askAndTest; split
  · exact claimAndRead_place_of_ne h
  · exact setPlace_place_of_ne h _

/-- A transaction checked and steered leaves an EMPTY place EMPTY: it is held on a claim or on none. -/
theorem checkAndSteer_keeps_empty {s : State} {i : Initiator} {t : Txn} {p : Owner}
    (h : s.place p = .empty) : (s.checkAndSteer i t).place p = .empty := by
  have hi : ∀ f g, (s.issue i t f g).place p = .empty := fun f g => by
    rw [← h]; unfold State.issue; cases g <;> rfl
  have hw : ∀ f g, (s.steerWrite i t f g).place p = .empty := fun f g => by
    unfold State.steerWrite; split
    · next o ho =>
      have hne : p ≠ o := by rintro rfl; have := claimOn_some ho; rw [h] at this; cases this
      unfold State.hold; simp only []; split
      · rw [setPlace_place_of_ne hne]; exact h
      · exact h
    · exact hi _ _
  unfold State.checkAndSteer State.steer
  repeat' split
  all_goals first | exact h | exact hi _ _ | exact hw _ _

theorem retranslateFold_keeps_empty {p : Owner} (l : List Initiator) {s : State}
    (h : s.place p = .empty) : (l.foldl (fun t i => t.retranslate i) s).place p = .empty := by
  induction l generalizing s with
  | nil => exact h
  | cons i l ih =>
    refine ih ?_
    show (s.retranslate i).place p = .empty
    unfold State.retranslate; split
    · exact checkAndSteer_keeps_empty h
    · exact h

/-- A new scrub takes the scrubber's place alone. -/
theorem chooseScrub_place_channel (s : State) (c : ChanNo) :
    s.chooseScrub.place (.channel c) = s.place (.channel c) := by
  unfold State.chooseScrub State.beginScrub
  repeat' split
  all_goals first | exact askAndTest_place_of_ne (by simp) | rfl

theorem finishScrub_place_channel (s : State) (c : ChanNo) :
    s.finishScrub.place (.channel c) = s.place (.channel c) := by
  unfold State.finishScrub; simp only []; split
  · exact chooseScrub_place_channel _ c
  · rfl

/-- A test of a line's requests leaves the place of an owner that requests nothing EMPTY. -/
theorem testRequests_keeps_channel_empty {s : State} {fl : FrameLine} {c : ChanNo}
    (h : s.place (.channel c) = .empty) : (s.testRequests fl).place (.channel c) = .empty := by
  unfold State.testRequests
  generalize s.reqOrder = l
  induction l generalizing s with
  | nil => exact h
  | cons o l ih =>
    refine ih ?_
    show (s.testOne fl o).place (.channel c) = .empty
    unfold State.testOne; split
    · next hr =>
      have hne : Owner.channel c ≠ o := by rintro rfl; rw [h] at hr; cases hr
      unfold State.grantClaim
      repeat' split
      · rw [claimAndRead_place_of_ne hne]; exact h
      · rw [claimAndRead_place_of_ne hne]; exact h
      · rw [finishScrub_place_channel, setPlace_place_of_ne (by simp)]; exact h
    · exact h

/-- With the scrubber's place EMPTY a test of requests grants channels alone: the scrubber's place and
its position stay. -/
theorem testRequests_keeps_scrubber {s : State} {fl : FrameLine} (h : s.place .scrubber = .empty) :
    (s.testRequests fl).place .scrubber = .empty ∧ (s.testRequests fl).scrub = s.scrub := by
  unfold State.testRequests
  generalize s.reqOrder = l
  induction l generalizing s with
  | nil => exact ⟨h, rfl⟩
  | cons o l ih =>
    have key : (s.testOne fl o).place .scrubber = .empty ∧ (s.testOne fl o).scrub = s.scrub := by
      unfold State.testOne; split
      · next hr =>
        cases o with
        | channel c => exact ⟨(claimAndRead_place_of_ne (by simp)).trans h, rfl⟩
        | scrubber => rw [h] at hr; cases hr
      · exact ⟨h, rfl⟩
    exact ⟨(ih key.1).1, (ih key.1).2.trans key.2⟩

/-- R98: what gives up a channel's place leaves it EMPTY. -/
theorem releasePlace_channel_empty (s : State) (c : ChanNo) :
    (s.releasePlace (.channel c)).place (.channel c) = .empty := by
  unfold State.releasePlace; split
  · assumption
  · exact setPlace_place_self _ _ _
  · exact testRequests_keeps_channel_empty
      (retranslateFold_keeps_empty _ (setPlace_place_self _ _ _))

/-- R115: the position after a scrub, from the model's own step of it. -/
theorem advance_of_movesOn {p q : Scrubber} (h : MovesOn p q) :
    ({ p with stage := .none } : Scrubber).advance = q := by
  obtain ⟨qf, ql, qp, qs, qe, qt⟩ := q
  obtain ⟨pf, pl, pp, ps, pe, pt⟩ := p
  obtain ⟨h1, h2, h3, h4⟩ := h
  simp only at h1 h2 h3 h4
  subst h1 h2 h3
  unfold Scrubber.advance
  simp only
  rcases h4 with ⟨_, _, rfl, rfl⟩ | ⟨_, _, rfl, _, rfl⟩ | ⟨_, _, rfl, rfl, rfl⟩
  · rw [if_pos (by omega)]; simp; apply Fin.ext; simp [lineNo]; omega
  · rw [if_neg (by omega), if_pos (by omega)]; simp; apply Fin.ext; simp; omega
  · rw [if_neg (by omega), if_neg (by omega)]

/-! ## Aborts -/

theorem revertSlice_migrating {s : State} {i : SliceNo} {source : FrameNo} {c : ChanNo}
    (h : (s.slice i).loc = .migrating source c) :
    s.revertSlice i = s.setLoc i (.mapped source) := by
  simp [State.revertSlice, h]

/-- R65: what an arbiter keeps of an aborted channel's operations. -/
theorem abandon_channel (a : Arbiter) (c : ChanNo) :
    a.abandon (.channel c) .aborted =
      { waiting := a.waiting.filter fun op => decide (op.req ≠ .channel c)
        lastChan := a.lastChan
        port := a.port.map fun op =>
          if op.req = .channel c ∧ op.standing = .live then { op with standing := .aborted }
          else op } := by
  unfold Arbiter.abandon
  congr 2; funext op; by_cases h : op.req = .channel c <;> simp [h]

/-- R63 to R66: an abort that returns its target is the tables of `State.abortTables` with MIG_ABORTED,
and the channel's place given up. -/
theorem abortChannel_eq {s : State} {c : ChanNo} {m : Migration} {source : FrameNo}
    {cause : LastOutcome} {state' : FrameState} (hm : (s.chan c).state.migration = some m)
    (hl : (s.slice m.slice).loc = .migrating source c) (hr : cause ≠ .reset)
    (ht : cause ≠ .targetRetired)
    (ho : m.origin = .free ∧ state' = .free ∨ m.origin = .spare ∧ state' = .spare) :
    s.abortChannel c cause =
      ({ s.abortTables c m source { s.frame m.target with state := state' } cause with
          flags := s.flags ||| Flag.migAborted.mask }).releasePlace (.channel c) := by
  have hb : (cause != .reset) = true := by cases cause <;> first | rfl | exact absurd rfl hr
  have ha : (fun a : Arbiter => a.abandon (.channel c) .aborted) = _ :=
    funext fun a => abandon_channel a c
  unfold State.abortChannel State.abandonCopy State.abortRecords
  congr 1
  rw [hm]
  simp only [State.abortTables]
  rw [revertSlice_migrating hl, ha, hb]
  rcases ho with ⟨ho, rfl⟩ | ⟨ho, rfl⟩
  · have : (s.setLoc m.slice (.mapped source)).returnTarget m cause =
        (s.setLoc m.slice (.mapped source)).setFrameState m.target .free := by
      simp [State.returnTarget, ht, ho]
    rw [this]; rfl
  · have : (s.setLoc m.slice (.mapped source)).returnTarget m cause =
        (s.setLoc m.slice (.mapped source)).joinSpare m.target := by
      simp [State.returnTarget, ht, ho]
    rw [this]; rfl

/-! ## Counts -/

theorem satAdd_le (n k : Nat) : satAdd n k ≤ 255 := Nat.min_le_left _ _

theorem countOnly_eq (s : State) (f : FrameNo) (o : ReadOutcome) :
    s.countOnly f o = { s with frames := s.frames.set f ((s.frame f).counted o) } := by
  cases o <;>
    simp [State.countOnly, FrameRec.counted, State.setFrame, satAdd, State.frame]

/-! ## Contents of the modules -/

/-- Storing a line adds its address and no other. -/
theorem storeLine_keys (m : Modules) (k : Nat) (d : Line) :
    ∀ a ∈ (storeLine m k d).map Prod.fst, a = k ∨ a ∈ m.map Prod.fst := by
  induction m with
  | nil => simp [storeLine]
  | cons e rest ih =>
    obtain ⟨b, x⟩ := e
    intro a ha
    simp only [storeLine] at ha
    split at ha
    · simpa using ha
    · split at ha
      · simp at ha ⊢; tauto
      · simp only [List.map_cons, List.mem_cons] at ha ⊢
        rcases ha with h | h
        · exact .inr (.inl h)
        · exact (ih a h).imp id .inr

/-- Storing a line keeps the canonical form of the modules' contents. -/
theorem storeLine_wf {m : Modules} (h : modulesWf m) (k : Nat) (d : Line) :
    modulesWf (storeLine m k d) := by
  induction m with
  | nil => simp [storeLine, modulesWf]
  | cons e rest ih =>
    obtain ⟨b, x⟩ := e
    have hr : modulesWf rest := (List.pairwise_cons.1 h).2
    have hb : ∀ a ∈ rest.map Prod.fst, b < a := (List.pairwise_cons.1 h).1
    simp only [storeLine]
    split
    · next hlt =>
      refine List.pairwise_cons.2 ⟨fun a ha => ?_, h⟩
      rcases List.mem_cons.1 ha with rfl | ha
      · exact hlt
      · exact Nat.lt_trans hlt (hb a ha)
    · split
      · next heq => subst heq; exact List.pairwise_cons.2 ⟨hb, hr⟩
      · refine List.pairwise_cons.2 ⟨fun a ha => ?_, ih hr⟩
        rcases storeLine_keys rest k d a ha with rfl | ha
        · omega
        · exact hb a ha

/-- A completed operation keeps the canonical form. -/
theorem complete_wf {s : State} (h : modulesWf s.modules) (k : Socket) (op : ModOp) :
    modulesWf (s.complete k op).modules := by
  unfold State.complete
  split
  · exact storeLine_wf h _ _
  · exact h

end Sys2Proof.Machine.Laws
end

