-- ==== Sys2Proof/WellFormed.lean ====
section
/-! DEFINITION. Which commands can be presented at all. Most ranges are in the operand types; what is
left is the width of the system bus. -/

namespace Sys2Proof

/-- A logical address has 32 bits on the system bus (DEDUCED from the eight hexadecimal digits in which
R1 writes every address; notes/assumptions/15.md). `exec` does not rest on it. -/
def Instr.wf : Instr → Bool
  | .dataPortTransaction _ _ addr => decide (addr < 2 ^ 32)
  | _ => true

end Sys2Proof
end

