-- ==== Sys2Proof/Tests/Slice0.lean ====
section
/-! SUPPORT. Tests: the well-formedness smoke tests, values the spec's tables and worked examples give, one
step of the commands, and for each statement with hypotheses a concrete state and operands that meet them,
clause by clause at the ends of their ranges. Every test is one step or none. -/

namespace Sys2Proof.Tests

open Sys2Proof Sys2Proof.Machine Sys2Proof.Machine.Laws

set_option Elab.async false

/-! ## Small states

`quiet` is an ACTIVE part with eight frames in socket A; `moving` has a migration RUNNING on channel 0 and one
ARMED behind it. -/

/-- A command word: code, bytes 0 to 3 of CMD1, halves 0 and 1 of CMD2; the tag is 0x5A. -/
def cmd (code a0 a1 a2 a3 low high : Nat) : CmdWord :=
  ⟨word4 code 0x5A 0 0, word4 a0 a1 a2 a3, word2 low high, 0⟩

/-- The state with one word in the command queue and no response waiting. -/
def feed (s : State) (w : CmdWord) : State := { s with cmdQ := [w], rspQ := [] }

/-- The state after a command; every command answers one. -/
def after (o : Host.Outcome State Fault Refusal) : State :=
  match o with
  | .next t => t
  | _ => State.reset

/-- The response a command word is answered with: status, then RSP1 to RSP3. -/
def answer (c : Instr) (s : State) (w : CmdWord) : Option (Status × Word32 × Word32 × Word32) :=
  (after (exec c (feed s w))).rspQ.head?.map fun r => (r.status, r.rsp1, r.rsp2, r.rsp3)

def frameIn (st : FrameState) (su : Option Cause) : FrameRec :=
  { state := st, suspect := su, corrected := 0, uncorrectable := 0 }

def sliceOn (l : SliceLoc) : SliceRec := { loc := l, protect := false, domain := 0xF#4 }

/-- Powered, the walk done, nothing in flight, in a phase, with frames 0 to 7 as given. -/
def partWith (p : Phase) (fs : Fin 8 → FrameRec) : State :=
  let z := State.powerOn #v[2, 0, 0, 0] [] false []
  { z with
    phase := p
    walk := { running := false, frame := none, pass := .read, line := 0, failed := false
              outstanding := none }
    arbs := Vector.replicate 4 { waiting := [], lastChan := 3, port := [] }
    frames := Vector.ofFn fun f => if h : f.val < 8 then fs ⟨f.val, h⟩ else frameIn .absent none }

/-- Slices 0, 1, 2 on frames 0, 2, 7, frame 2 suspect and queued, frame 1 a spare, frame 4 RETIRED. -/
def quiet : State :=
  { partWith .active fun
      | 0 => frameIn (.bound 0) none
      | 1 => frameIn .spare none
      | 2 => frameIn (.bound 1) (some .software)
      | 4 => frameIn .retired (some .inventory)
      | 7 => frameIn (.bound 2) none
      | _ => frameIn .free none with
    slices := (((Vector.replicate 48 (sliceOn .unmapped)).set 0 (sliceOn (.mapped 0))).set 1
      (sliceOn (.mapped 2))).set 2 (sliceOn (.mapped 7))
    spareQ := [1]
    retireQ := [2] }

/-- The migration on channel 0 of `moving`. -/
def mig0 (cursor : Nat) : Migration :=
  { slice := 0, target := 3, origin := .free, after := none, by_ := .command, cursor := cursor
    poisoned := 0 }

/-- The migration ARMED behind it, onto a frame that was a spare. -/
def mig1 : Migration :=
  { slice := 1, target := 6, origin := .spare, after := some 0, by_ := .command, cursor := 0
    poisoned := 0 }

/-- Slice 0 moves from frame 0 to 3 with the given cursor, slice 1 waits to move from 2 to 6. -/
def moving (cursor : Nat) : State :=
  { quiet with
    slices := ((quiet.slices.set 0 (sliceOn (.migrating 0 0))).set 1 (sliceOn (.migrating 2 1)))
    frames := (quiet.frames.set 3 (frameIn .target none)).set 6 (frameIn .target none)
    chans := #v[{ state := .running (mig0 cursor) 0, last := .none },
      { state := .armed mig1, last := .none }, { state := .idle, last := .none },
      { state := .idle, last := .none }] }

/-- The same with the ARMED channel's predecessor gone: its own abort is to follow. -/
def broken : State :=
  { moving 5 with
    slices := (moving 5).slices.set 0 (sliceOn (.mapped 0))
    frames := (moving 5).frames.set 3 (frameIn .free none)
    chans := (moving 5).chans.set 0 { state := .idle, last := .cancelled }
    broken := [1] }

/-- STAGED, all eight frames FREE but frame 4, RETIRED. -/
def staged : State :=
  partWith .staged fun
    | 4 => frameIn .retired (some .inventory)
    | _ => frameIn .free none

/-- A state with one operation granted at socket A. -/
def inPort (s : State) (op : ModOp) : State :=
  { s with arbs := s.arbs.set 0 { waiting := [], lastChan := 3, port := [op] } }

/-- A state with one operation waiting at socket A. -/
def asking (s : State) (ops : List ModOp) : State :=
  { s with arbs := s.arbs.set 0 { waiting := ops, lastChan := 3, port := [] } }

/-- The line that holds 7 in every word. -/
def sevens : Line := Vector.replicate 32 7#64

/-! ## The laws, where a state is small enough to check them -/

/-- What `chainLaw` asks of one channel, as a check. -/
def chainOk (s : State) (c : ChanNo) : Bool :=
  match (s.chan c).state with
  | .idle => true
  | .running m f =>
    decide ((s.slice m.slice).loc.source = some f ∧ m.cursor ≤ Config.linesPerFrame)
  | .armed m =>
    decide (m.cursor = 0 ∧ ∃ j : ChanNo, m.after = some j ∧ j ≠ c ∧
      (c ∉ s.broken → (s.chan j).state ≠ .idle))

theorem chainLaw_of {s : State} (h : ∀ c : ChanNo, chainOk s c = true)
    (hb : s.broken.Nodup ∧ ∀ c ∈ s.broken, (s.chan c).state.code = 1) : chainLaw s := by
  refine ⟨fun c m f hc => ?_, fun c m hc => ?_, hb.1, fun c hc => ?_⟩
  · have := h c; rw [chainOk, hc] at this; exact of_decide_eq_true this
  · have := h c; rw [chainOk, hc] at this; exact of_decide_eq_true this
  · have := hb.2 c hc
    cases hs : (s.chan c).state with
    | armed m => exact ⟨m, rfl⟩
    | idle => rw [hs] at this; simp [ChanState.code] at this
    | running m f => rw [hs] at this; simp [ChanState.code] at this

/-- With no claim, no request and no transaction the claim laws hold. -/
theorem claimLaws_of {s : State} (hp : ∀ k : Fin 5, s.places[k] = .empty)
    (ht : ∀ i : Initiator, (s.port i).txn = .idle) : ClaimLaws s := by
  have he : ∀ o : Owner, s.place o = .empty := fun o => hp (ownerPlace o)
  refine ⟨fun o p fl h => ?_, fun i o => ?_, fun o => ?_, fun o fl h => ?_, fun _ => he .scrubber⟩
  · rw [he o] at h; cases h
  · rw [ht i, he o]; simp [TxnState.waitsOn, Place.held]
  · rw [he o]; exact List.nodup_nil
  · rw [he o] at h; cases h

theorem quiet_laws : MapLaws quiet where
  sliceFrame := by decide +kernel
  sliceChan := by decide +kernel
  target := by decide +kernel
  spare := by decide +kernel
  retire := by decide +kernel
  suspect := by decide +kernel
  phase := by decide +kernel
  chain := chainLaw_of (by decide +kernel) (by decide +kernel)
  poison := ⟨by decide, by decide, fun _ h => by cases h⟩
  presence := by decide +kernel
  walk := by decide +kernel
  session := by decide +kernel

theorem moving_laws : MapLaws (moving 16383) where
  sliceFrame := by decide +kernel
  sliceChan := by decide +kernel
  target := by decide +kernel
  spare := by decide +kernel
  retire := by decide +kernel
  suspect := by decide +kernel
  phase := by decide +kernel
  chain := chainLaw_of (by decide +kernel) (by decide +kernel)
  poison := ⟨by decide, by decide, fun _ h => by cases h⟩
  presence := by decide +kernel
  walk := by decide +kernel
  session := by decide +kernel

theorem broken_laws : MapLaws broken where
  sliceFrame := by decide +kernel
  sliceChan := by decide +kernel
  target := by decide +kernel
  spare := by decide +kernel
  retire := by decide +kernel
  suspect := by decide +kernel
  phase := by decide +kernel
  chain := chainLaw_of (by decide +kernel) (by decide +kernel)
  poison := ⟨by decide, by decide, fun _ h => by cases h⟩
  presence := by decide +kernel
  walk := by decide +kernel
  session := by decide +kernel


/-- The laws do not look at the queues, the enables or the session. -/
theorem mapLaws_feed {s : State} (h : MapLaws s) (p : List Instr) (q : List CmdWord)
    (r : List Response) : MapLaws { s with pending := p, cmdQ := q, rspQ := r } :=
  ⟨h.sliceFrame, h.sliceChan, h.target, h.spare, h.retire, h.suspect, h.phase, h.chain, h.poison,
    h.presence, h.walk, h.session⟩

/-! ## Witnesses: the commands of the command unit -/

def importing : State :=
  { partWith .importing fun _ => frameIn .free none with importS := some .opened }

def locked (s : State) : State := { s with locked := true }

/-- The retire queue full of other frames, so that frame 2 waits outside. -/
def crowded : State := { quiet with retireQ := [8, 9, 10, 11, 12, 13, 14, 15] }

/-- Three poison entries. -/
def listed : State := { quiet with poison := [(0, 3), (2, 9), (2, 10)] }

theorem witness_map_refusals :
    (∀ w ∈ [cmd 0x10 48 0 0 0 0 0, cmd 0x10 0 64 0 0 0 0, cmd 0x10 47 0xFE 0 0 0 0],
      Takes (feed quiet w) 0x10 w [] ∧
        ¬(byteOf w.cmd1 0 ≤ 47 ∧ (byteOf w.cmd1 1 ≤ 63 ∨ byteOf w.cmd1 1 = 0xFF))) ∧
    (∀ w ∈ [cmd 0x10 47 63 0 0 0 0, cmd 0x10 47 0xFF 0 0 0 0],
      Takes (feed importing w) 0x10 w [] ∧ Takes (feed (locked quiet) w) 0x10 w [] ∧
        byteOf w.cmd1 0 = (47 : SliceNo).val ∧
        (byteOf w.cmd1 1 ≤ 63 ∨ byteOf w.cmd1 1 = 0xFF) ∧ ¬inService (feed importing w) ∧
        inService (feed (locked quiet) w) ∧ (feed (locked quiet) w).locked = true) ∧
    (∀ w ∈ [cmd 0x10 0 5 0 0 0 0], Takes (feed (moving 5) w) 0x10 w [] ∧
      inService (feed (moving 5) w) ∧ (feed (moving 5) w).locked = false ∧
      ((feed (moving 5) w).slice 0).loc = .migrating 0 0 ∧
      Takes (feed quiet w) 0x10 w [] ∧ ((feed quiet w).slice 0).loc = .mapped 0) ∧
    (∀ w ∈ [cmd 0x10 47 0 0 0 0 0], byteOf w.cmd1 1 = (0 : FrameNo).val ∧
      ((feed quiet w).slice 47).loc = .unmapped ∧ ((feed quiet w).frame 0).state ≠ .free ∧
      ((feed quiet w).frame 0).state ≠ .spare) := by decide +kernel

theorem witness_map_effects :
    (∀ w ∈ [cmd 0x10 47 0xFF 0 0 0 0],
      Takes (feed (partWith .staged fun _ => frameIn .retired none) w) 0x10 w [] ∧
      byteOf w.cmd1 1 = 0xFF ∧
      ∀ f : FrameNo,
        ((feed (partWith .staged fun _ => frameIn .retired none) w).frame f).state ≠ .free) ∧
    (∀ w ∈ [cmd 0x10 47 1 0 0 1 0], Takes (feed quiet w) 0x10 w [] ∧
      inService (feed quiet w) ∧ (feed quiet w).locked = false ∧
      ((feed quiet w).slice 47).loc = .unmapped ∧ byteOf w.cmd1 1 = (1 : FrameNo).val ∧
      ((feed quiet w).frame 1).state = .spare ∧ [] = (feed quiet w).spareQ.erase 1) ∧
    ∀ w ∈ [cmd 0x10 47 0xFF 0 0 0 0], Takes (feed quiet w) 0x10 w [] ∧
      byteOf w.cmd1 1 = 0xFF ∧ ((feed quiet w).frame 3).state = .free ∧
      ∀ g : FrameNo, g < 3 → ((feed quiet w).frame g).state ≠ .free := by decide +kernel

theorem witness_unmap :
    (∀ w ∈ [cmd 0x11 48 0 0 0 0 0], Takes (feed quiet w) 0x11 w [] ∧ 47 < byteOf w.cmd1 0) ∧
    (∀ w ∈ [cmd 0x11 47 0 0 0 0 0], byteOf w.cmd1 0 = (47 : SliceNo).val ∧
      Takes (feed importing w) 0x11 w [] ∧ ¬inService (feed importing w) ∧
      Takes (feed (locked quiet) w) 0x11 w [] ∧ inService (feed (locked quiet) w) ∧
      (feed (locked quiet) w).locked = true ∧ Takes (feed quiet w) 0x11 w [] ∧
      inService (feed quiet w) ∧ (feed quiet w).locked = false ∧
      ((feed quiet w).slice 47).loc = .unmapped) ∧
    (∀ w ∈ [cmd 0x11 0 0 0 0 0 0], byteOf w.cmd1 0 = (0 : SliceNo).val ∧
      Takes (feed (moving 5) w) 0x11 w [] ∧ ((feed (moving 5) w).slice 0).loc = .migrating 0 0 ∧
      Takes (feed quiet w) 0x11 w [] ∧ ((feed quiet w).slice 0).loc = .mapped 0 ∧
      ((feed quiet w).frame 0).suspect = none) ∧
    ∀ w ∈ [cmd 0x11 1 0 0 0 0 0], byteOf w.cmd1 0 = (1 : SliceNo).val ∧
      Takes (feed quiet w) 0x11 w [] ∧ ((feed quiet w).slice 1).loc = .mapped 2 ∧
      ((feed quiet w).frame 2).suspect = some .software := by decide +kernel

theorem witness_attributes_and_lock :
    (∀ w ∈ [cmd 0x12 48 0 0 0 0 0], Takes (feed quiet w) 0x12 w [] ∧ 47 < byteOf w.cmd1 0) ∧
    (∀ w ∈ [cmd 0x12 47 0 0 0 0x0300 0], byteOf w.cmd1 0 = (47 : SliceNo).val ∧
      Takes (feed importing w) 0x12 w [] ∧ ¬inService (feed importing w) ∧
      Takes (feed (locked quiet) w) 0x12 w [] ∧ inService (feed (locked quiet) w) ∧
      (feed (locked quiet) w).locked = true ∧ Takes (feed quiet w) 0x12 w [] ∧
      inService (feed quiet w) ∧ (feed quiet w).locked = false ∧
      false = decide (byteOf w.cmd2 0 % 2 = 1) ∧
      (0x3#4 : DomainSet) = BitVec.ofNat 4 (byteOf w.cmd2 1) ∧
      ¬(((feed quiet w).slice 47).protect = false ∧ ((feed quiet w).slice 47).domain = 0x3#4)) ∧
    (∀ w ∈ [cmd 0x12 0 0 0 0 0x0F00 0], Takes (feed quiet w) 0x12 w [] ∧
      ((feed quiet w).slice 0).protect = decide (byteOf w.cmd2 0 % 2 = 1) ∧
      ((feed quiet w).slice 0).domain = BitVec.ofNat 4 (byteOf w.cmd2 1)) ∧
    ∀ w ∈ [cmd 0x14 0 0 0 0 0 0], Takes (feed quiet w) 0x14 w [] ∧
      (feed quiet w).phase ≠ .inventory ∧
      Takes (feed (State.powerOn #v[1, 0, 0, 0] [] false []) w) 0x14 w [] ∧
      (feed (State.powerOn #v[1, 0, 0, 0] [] false []) w).phase = .inventory := by decide +kernel

theorem witness_queries_of_slices_and_frames :
    (∀ w ∈ [cmd 0x13 48 0 0 0 0 0], Takes (feed quiet w) 0x13 w [] ∧ 47 < byteOf w.cmd1 0) ∧
    (∀ w ∈ [cmd 0x13 0 0 0 0 0 0], byteOf w.cmd1 0 = (0 : SliceNo).val ∧
      Takes (feed quiet w) 0x13 w [] ∧ ((feed quiet w).slice 0).loc = .mapped 0 ∧
      Takes (feed (moving 5) w) 0x13 w [] ∧ ((feed (moving 5) w).slice 0).loc = .migrating 0 0) ∧
    (∀ w ∈ [cmd 0x13 47 0 0 0 0 0], byteOf w.cmd1 0 = (47 : SliceNo).val ∧
      Takes (feed quiet w) 0x13 w [] ∧ ((feed quiet w).slice 47).loc = .unmapped) ∧
    (∀ w ∈ [cmd 0x20 0 64 0 0 0 0], Takes (feed quiet w) 0x20 w [] ∧ 63 < byteOf w.cmd1 1) ∧
    (∀ w ∈ [cmd 0x20 0 2 0 0 0 0], byteOf w.cmd1 1 = (2 : FrameNo).val ∧
      Takes (feed quiet w) 0x20 w [] ∧ ((feed quiet w).frame 2).state = .bound 1 ∧
      2 ∉ (feed quiet w).spareQ ∧ 2 ∈ (feed quiet w).retireQ ∧
      ((feed quiet w).frame 2).state ≠ .target ∧ 2 ∉ (feed crowded w).retireQ ∧
      (feed crowded w).suspectBound 2) ∧
    (∀ w ∈ [cmd 0x20 0 1 0 0 0 0], byteOf w.cmd1 1 = (1 : FrameNo).val ∧
      Takes (feed quiet w) 0x20 w [] ∧ 1 ∈ (feed quiet w).spareQ ∧
      1 ∉ (feed quiet w).retireQ ∧ ¬(feed quiet w).suspectBound 1 ∧
      ((feed quiet w).frame 1).state.isBound = false) ∧
    (∀ w ∈ [cmd 0x20 0 3 0 0 0 0], byteOf w.cmd1 1 = (3 : FrameNo).val ∧
      Takes (feed (moving 5) w) 0x20 w [] ∧ ((feed (moving 5) w).frame 3).state = .target ∧
      (feed (moving 5) w).targetChan 3 = some 0) ∧
    ∀ w ∈ [cmd 0x20 0 63 0 0 0 0], byteOf w.cmd1 1 = (63 : FrameNo).val ∧
      Takes (feed quiet w) 0x20 w [] := by
  refine ⟨?_, ?_, ?_, ?_, ?_, ?_, ?_, ?_⟩ <;> decide +kernel

theorem witness_queries_of_channels_and_tables :
    (∀ w ∈ [cmd 0x32 0 0 4 0 0 0], Takes (feed quiet w) 0x32 w [] ∧ 3 < byteOf w.cmd1 2) ∧
    (∀ w ∈ [cmd 0x32 0 0 3 0 0 0], byteOf w.cmd1 2 = (3 : ChanNo).val ∧
      Takes (feed quiet w) 0x32 w [] ∧ ((feed quiet w).chan 3).state = .idle) ∧
    (∀ w ∈ [cmd 0x32 0 0 0 0 0 0], byteOf w.cmd1 2 = (0 : ChanNo).val ∧
      Takes (feed (moving 5) w) 0x32 w [] ∧
      ((feed (moving 5) w).chan 0).state = .running (mig0 5) 0 ∧ (mig0 5).after = none) ∧
    (∀ w ∈ [cmd 0x32 0 0 1 0 0 0], byteOf w.cmd1 2 = (1 : ChanNo).val ∧
      Takes (feed (moving 5) w) 0x32 w [] ∧
      ((feed (moving 5) w).chan 1).state = .armed mig1 ∧ mig1.after = some 0) ∧
    (∀ w ∈ [cmd 0x41 32 0 0 0 0 0], Takes (feed quiet w) 0x41 w [] ∧ 31 < byteOf w.cmd1 0) ∧
    (∀ w ∈ [cmd 0x41 31 0 0 0 0 0], Takes (feed quiet w) 0x41 w [] ∧ byteOf w.cmd1 0 ≤ 31 ∧
      (feed quiet w).poison.length ≤ byteOf w.cmd1 0) ∧
    (∀ w ∈ [cmd 0x41 0 0 0 0 0 0],
      Takes (feed listed w) 0x41 w [] ∧
      (feed listed w).poison[byteOf w.cmd1 0]? = some (0, 3)) ∧
    ∀ w ∈ [cmd 0x51 0 0 0 0 0 0, cmd 0x51 1 0 0 0 0 0, cmd 0x51 2 0 0 0 0 0],
      Takes (feed quiet w) 0x51 w [] := by decide +kernel

theorem witness_spares :
    (∀ w ∈ [cmd 0x21 0 64 0 0 0 0], Takes (feed quiet w) 0x21 w [] ∧ 63 < byteOf w.cmd1 1) ∧
    (∀ w ∈ [cmd 0x21 0 3 0 0 0 0], byteOf w.cmd1 1 = (3 : FrameNo).val ∧
      Takes (feed staged w) 0x21 w [] ∧ (feed staged w).phase ≠ .active ∧
      Takes (feed quiet w) 0x21 w [] ∧ (feed quiet w).phase = .active ∧
      ((feed quiet w).frame 3).state = .free ∧ 3 ∉ (feed quiet w).spareQ) ∧
    (∀ w ∈ [cmd 0x21 0 63 0 0 0 0], byteOf w.cmd1 1 = (63 : FrameNo).val ∧
      Takes (feed quiet w) 0x21 w [] ∧ ((feed quiet w).frame 63).state ≠ .free) ∧
    (∀ w ∈ [cmd 0x22 0 64 0 0 0 0], Takes (feed quiet w) 0x22 w [] ∧ 63 < byteOf w.cmd1 1) ∧
    (∀ w ∈ [cmd 0x22 0 1 0 0 0 0], byteOf w.cmd1 1 = (1 : FrameNo).val ∧
      Takes (feed staged w) 0x22 w [] ∧ (feed staged w).phase ≠ .active ∧
      Takes (feed quiet w) 0x22 w [] ∧ (feed quiet w).phase = .active ∧
      ((feed quiet w).frame 1).state = .spare) ∧
    ∀ w ∈ [cmd 0x22 0 63 0 0 0 0], byteOf w.cmd1 1 = (63 : FrameNo).val ∧
      Takes (feed quiet w) 0x22 w [] ∧ ((feed quiet w).frame 63).state ≠ .spare := by
  decide +kernel

theorem witness_retire :
    (∀ w ∈ [cmd 0x23 0 64 0 0 0 0], Takes (feed quiet w) 0x23 w [] ∧ 63 < byteOf w.cmd1 1) ∧
    (∀ w ∈ [cmd 0x23 0 63 0 0 0 0], byteOf w.cmd1 1 = (63 : FrameNo).val ∧
      Takes (feed importing w) 0x23 w [] ∧ ¬inService (feed importing w) ∧
      Takes (feed quiet w) 0x23 w [] ∧ inService (feed quiet w) ∧
      ((feed quiet w).frame 63).state = .absent) ∧
    (∀ w ∈ [cmd 0x23 0 1 0 0 0 0], Takes (feed quiet w) 0x23 w [] ∧
      ((feed quiet w).frame 1).state = .spare ∧ 1 ∉ (feed quiet w).retireQ ∧
      [] = (feed quiet w).spareQ.erase 1) ∧
    (∀ w ∈ [cmd 0x23 0 3 0 0 0 0], Takes (feed quiet w) 0x23 w [] ∧
      ((feed quiet w).frame 3).state = .free ∧ 3 ∉ (feed quiet w).retireQ) ∧
    (∀ w ∈ [cmd 0x23 0 0 0 0 0 0], Takes (feed quiet w) 0x23 w [] ∧
      ((feed quiet w).frame 0).state = .bound 0 ∧ ((feed quiet w).frame 0).suspect = none ∧
      0 ∉ (feed quiet w).retireQ ∧ (feed quiet w).retireQ.length < 8 ∧
      8 ≤ (feed crowded w).retireQ.length ∧
      0 ∉ (feed crowded w).retireQ) ∧
    ∀ w ∈ [cmd 0x23 0 2 0 0 0 0], Takes (feed quiet w) 0x23 w [] ∧
      ((feed quiet w).frame 2).state = .bound 1 ∧
      ((feed quiet w).frame 2).suspect = some .software ∧ 2 ∈ (feed quiet w).retireQ ∧
      2 ∉ (feed crowded w).retireQ := by
  refine ⟨?_, ?_, ?_, ?_, ?_, ?_⟩ <;> decide +kernel

theorem witness_clear_counts :
    (∀ w ∈ [cmd 0x24 0 64 0 0 0 0], Takes (feed quiet w) 0x24 w [] ∧ 63 < byteOf w.cmd1 1) ∧
    (∀ w ∈ [cmd 0x24 0 63 0 0 0 0], byteOf w.cmd1 1 = (63 : FrameNo).val ∧
      Takes (feed (State.powerOn #v[1, 0, 0, 0] [] false []) w) 0x24 w [] ∧
      (feed (State.powerOn #v[1, 0, 0, 0] [] false []) w).phase = .inventory ∧
      Takes (feed quiet w) 0x24 w [] ∧ (feed quiet w).phase ≠ .inventory ∧
      ((feed quiet w).frame 63).state = .absent) ∧
    ∀ w ∈ [cmd 0x24 0 4 0 0 0 0], byteOf w.cmd1 1 = (4 : FrameNo).val ∧
      Takes (feed quiet w) 0x24 w [] ∧ ((feed quiet w).frame 4).state ≠ .absent := by
  decide +kernel

theorem witness_migrate_refusals :
    (∀ w ∈ [cmd 0x30 48 0 0 0 0 0, cmd 0x30 0 64 0 0 0 0, cmd 0x30 0 0xFF 0 0 0 0,
        cmd 0x30 0 0 4 0 0 0, cmd 0x30 0 0 0 1 0 0, cmd 0x30 0 0 0 0x7F 0 0,
        cmd 0x30 0 0 0 0x84 0 0],
      Takes (feed quiet w) 0x30 w [] ∧
      ¬(byteOf w.cmd1 0 ≤ 47 ∧ (byteOf w.cmd1 1 ≤ 63 ∨ byteOf w.cmd1 1 = 0xFE) ∧
        (byteOf w.cmd1 2 ≤ 3 ∨ byteOf w.cmd1 2 = 0xFF) ∧
        (byteOf w.cmd1 3 = 0 ∨ 0x80 ≤ byteOf w.cmd1 3 ∧ byteOf w.cmd1 3 ≤ 0x83))) ∧
    (∀ w ∈ [cmd 0x30 47 63 3 0x83 0 0], byteOf w.cmd1 0 = (47 : SliceNo).val ∧
      byteOf w.cmd1 1 = ((some (63 : FrameNo)).map Fin.val).getD 0xFE ∧
      byteOf w.cmd1 2 = ((some (3 : ChanNo)).map Fin.val).getD 0xFF ∧
      byteOf w.cmd1 3 = ((some (3 : ChanNo)).map fun j => 0x80 + j.val).getD 0 ∧
      Takes (feed staged w) 0x30 w [] ∧ (feed staged w).phase ≠ .active ∧
      Takes (feed quiet w) 0x30 w [] ∧ (feed quiet w).phase = .active ∧
      ((feed quiet w).slice 47).loc = .unmapped) ∧
    (∀ w ∈ [cmd 0x30 2 0 0 0x80 0 0], Takes (feed (moving 5) w) 0x30 w [] ∧
      ((feed (moving 5) w).slice 2).loc = .mapped 7 ∧
      ((feed (moving 5) w).chan 0).state ≠ .idle ∧
      ((feed (moving 5) w).slice 0).loc = .migrating 0 0) ∧
    (∀ w ∈ [cmd 0x30 2 0xFE 0xFF 0 0 0],
      Takes (feed { moving 5 with chans := Vector.replicate 4 ((moving 5).chan 0) } w) 0x30 w [] ∧
      (∀ c : ChanNo,
        ((feed { moving 5 with chans := Vector.replicate 4 ((moving 5).chan 0) } w).chan c).state ≠
          .idle) ∧
      Takes (feed { quiet with spareQ := [] } w) 0x30 w [] ∧
      (feed { quiet with spareQ := [] } w).spareQ = []) ∧
    ∀ w ∈ [cmd 0x30 2 0 2 0x82 0 0], Takes (feed quiet w) 0x30 w [] ∧
      ((feed quiet w).chan 2).state = .idle ∧ ((feed quiet w).frame 0).state ≠ .free ∧
      ((feed quiet w).frame 0).state ≠ .spare := by decide +kernel

theorem witness_migrate_effects :
    (∀ w ∈ [cmd 0x30 2 0xFE 0xFF 0 0 0], byteOf w.cmd1 0 = (2 : SliceNo).val ∧
      byteOf w.cmd1 1 = ((none : Option FrameNo).map Fin.val).getD 0xFE ∧
      byteOf w.cmd1 2 = ((none : Option ChanNo).map Fin.val).getD 0xFF ∧
      byteOf w.cmd1 3 = ((none : Option ChanNo).map fun j => 0x80 + j.val).getD 0 ∧
      Takes (feed (moving 5) w) 0x30 w [] ∧ (feed (moving 5) w).phase = .active ∧
      ((feed (moving 5) w).slice 2).loc = .mapped 7 ∧ ((feed (moving 5) w).chan 2).state = .idle ∧
      (∀ d : ChanNo, d < 2 → ((feed (moving 5) w).chan d).state ≠ .idle) ∧
      (feed (moving 5) w).spareQ.head? = some 1 ∧ ((feed (moving 5) w).frame 1).state = .spare ∧
      [] = (feed (moving 5) w).spareQ.erase 1) ∧
    ∀ w ∈ [cmd 0x30 2 5 3 0x80 0 0],
      byteOf w.cmd1 1 = ((some (5 : FrameNo)).map Fin.val).getD 0xFE ∧
      byteOf w.cmd1 2 = ((some (3 : ChanNo)).map Fin.val).getD 0xFF ∧
      byteOf w.cmd1 3 = ((some (0 : ChanNo)).map fun j => 0x80 + j.val).getD 0 ∧
      Takes (feed (moving 5) w) 0x30 w [] ∧ ((feed (moving 5) w).chan 3).state = .idle ∧
      ((feed (moving 5) w).frame 5).state = .free ∧
      ((feed (moving 5) w).chan 0).state ≠ .idle ∧ (0 : ChanNo) ≠ 3 := by decide +kernel

theorem witness_cancel :
    (∀ w ∈ [cmd 0x31 0 0 4 0 0 0], Takes (feed quiet w) 0x31 w [] ∧ 3 < byteOf w.cmd1 2) ∧
    ∀ w ∈ [cmd 0x31 0 0 3 0 0 0], byteOf w.cmd1 2 = (3 : ChanNo).val ∧
      Takes (feed staged w) 0x31 w [] ∧ (feed staged w).phase ≠ .active ∧
      Takes (feed quiet w) 0x31 w [] ∧ (feed quiet w).phase = .active ∧
      ((feed quiet w).chan 3).state = .idle := by decide +kernel

/-- Channel 1 waits on channel 0, and nothing else does. -/
theorem behind_moving (d : ChanNo) :
    d ∈ [(1 : ChanNo)] ↔ (feed (moving 16383) (cmd 0x31 0 0 0 0 0 0)).Behind 0 d ∧ d ≠ 0 := by
  have hw : ∀ c : ChanNo, (feed (moving 16383) (cmd 0x31 0 0 0 0 0 0)).waitersOn c =
      if c = 0 then [1] else [] := by decide +kernel
  constructor
  · intro h
    simp only [List.mem_singleton] at h
    subst h
    exact ⟨.direct 1 (by rw [hw]; decide), by decide⟩
  · rintro ⟨h, -⟩
    induction h with
    | direct d hd => rw [hw] at hd; exact hd
    | through d e _ he ih =>
      simp only [List.mem_singleton] at ih
      rw [hw, ih] at he
      cases he

theorem witness_cancel_abort :
    let w := cmd 0x31 0 0 0 0 0 0
    let s := feed (moving 16383) w
    Takes s 0x31 w [] ∧ byteOf w.cmd1 2 = (0 : ChanNo).val ∧ MapLaws s ∧ ClaimLaws s ∧
      s.phase = .active ∧ (s.chan 0).state.migration = some (mig0 16383) ∧
      (s.slice 0).loc = .migrating 0 0 ∧ (mig0 16383).origin = .free ∧ [(1 : ChanNo)].Nodup ∧
      ∀ d, d ∈ [(1 : ChanNo)] ↔ s.Behind 0 d ∧ d ≠ 0 :=
  ⟨by decide +kernel, by decide +kernel, mapLaws_feed moving_laws _ _ _,
    claimLaws_of (by decide +kernel) (by decide +kernel), by decide +kernel, by decide +kernel,
    by decide +kernel, rfl, by decide, behind_moving⟩

/-- Nothing waits on channel 1, whose target was a spare. -/
theorem behind_waiting (d : ChanNo) :
    d ∈ ([] : List ChanNo) ↔ (feed (moving 16383) (cmd 0x31 0 0 1 0 0 0)).Behind 1 d ∧ d ≠ 1 := by
  have hw : (feed (moving 16383) (cmd 0x31 0 0 1 0 0 0)).waitersOn 1 = [] := by decide +kernel
  constructor
  · intro h; cases h
  · rintro ⟨h, -⟩
    induction h with
    | direct d hd => rw [hw] at hd; exact hd
    | through d e _ _ ih => cases ih

theorem witness_cancel_abort_to_spare :
    let w := cmd 0x31 0 0 1 0 0 0
    let s := feed (moving 16383) w
    Takes s 0x31 w [] ∧ byteOf w.cmd1 2 = (1 : ChanNo).val ∧ MapLaws s ∧ ClaimLaws s ∧
      s.phase = .active ∧ (s.chan 1).state.migration = some mig1 ∧
      (s.slice 1).loc = .migrating 2 1 ∧ mig1.origin = .spare ∧ ([] : List ChanNo).Nodup ∧
      ∀ d, d ∈ ([] : List ChanNo) ↔ s.Behind 1 d ∧ d ≠ 1 :=
  ⟨by decide +kernel, by decide +kernel, mapLaws_feed moving_laws _ _ _,
    claimLaws_of (by decide +kernel) (by decide +kernel), by decide +kernel, by decide +kernel,
    by decide +kernel, rfl, List.nodup_nil, behind_waiting⟩

theorem witness_retire_target :
    let w := cmd 0x23 0 6 0 0 0 0
    let s := feed (moving 16383) w
    Takes s 0x23 w [] ∧ byteOf w.cmd1 1 = (6 : FrameNo).val ∧ MapLaws s ∧ ClaimLaws s ∧
      inService s ∧ (s.chan 1).state.migration = some mig1 ∧ mig1.target = 6 ∧
      (s.slice mig1.slice).loc = .migrating 2 1 :=
  ⟨by decide +kernel, by decide +kernel, mapLaws_feed moving_laws _ _ _,
    claimLaws_of (by decide +kernel) (by decide +kernel), by decide +kernel, by decide +kernel,
    rfl, by decide +kernel⟩

theorem witness_checked_in_turn :
    (∀ w ∈ [cmd 0x0F 0 0 0 0 0 0, cmd 0x15 0 0 0 0 0 0, cmd 0xFF 0 0 0 0 0 0],
      Takes (feed quiet w) (cmdCode w) w [] ∧
      (cmdCode w).toNat ∉ [0x10, 0x11, 0x12, 0x13, 0x14, 0x20, 0x21, 0x22, 0x23, 0x24, 0x30, 0x31,
        0x32, 0x40, 0x41, 0x50, 0x51, 0x52, 0x60, 0x61, 0x62, 0x63, 0x68, 0x69]) ∧
    (quiet.cmdQ = [] ∧ quiet.powerOff.powered = false ∧
      Config.responseCapacity ≤
        { quiet with rspQ := List.replicate 8 ⟨0, 0, .ok, 0, 0, 0⟩ }.rspQ.length ∧
      ∀ w ∈ [cmd 0x10 0 0 0 0 0 0], (feed quiet w).cmdQ = w :: [] ∧ cmdCode w ≠ 0x11) ∧
    (∀ r ∈ commandTable, r.phases ≠ [.inventory, .staged, .importing, .active] →
      ∃ p ∈ [Phase.inventory, .staged], p ∉ r.phases) ∧
    ∀ r ∈ commandTable, r.lockable = true → Phase.staged ∈ r.phases := by decide +kernel

theorem witness_clear_poison :
    (∀ w ∈ [cmd 0x40 48 0 0 0 0 0, cmd 0x40 47 0 0 0 16384 0], Takes (feed quiet w) 0x40 w [] ∧
      (47 < byteOf w.cmd1 0 ∨ 16383 < lowHalf w.cmd2)) ∧
    (∀ w ∈ [cmd 0x40 47 0 0 0 16383 0], byteOf w.cmd1 0 = (47 : SliceNo).val ∧
      lowHalf w.cmd2 = (16383 : LineNo).val ∧ Takes (feed importing w) 0x40 w [] ∧
      ¬inService (feed importing w) ∧ Takes (feed (locked quiet) w) 0x40 w [] ∧
      (feed (locked quiet) w).locked = true ∧ Takes (feed quiet w) 0x40 w [] ∧
      inService (feed quiet w) ∧ (feed quiet w).locked = false ∧
      (47, 16383) ∉ (feed quiet w).poison) ∧
    ∀ w ∈ [cmd 0x40 2 0 0 0 9 0],
      Takes (feed listed w) 0x40 w [] ∧
      (feed listed w).poison =
        [(0, 3)] ++ (2, 9) :: [(2, 10)] ∧ (2, 9) ∉ [((0 : SliceNo), (3 : LineNo))] := by
  refine ⟨?_, ?_, ?_⟩ <;> decide +kernel

theorem witness_set_policy :
    (∀ w ∈ [cmd 0x50 2 1 0 0 0 0, cmd 0x50 0 0 0 0 0 0, cmd 0x50 0 1 64 0 0 0,
        cmd 0x50 0 1 0 17 0 0],
      Takes (feed quiet w) 0x50 w [] ∧
      (1 < byteOf w.cmd1 0 ∨ byteOf w.cmd1 1 = 0 ∨ 63 < byteOf w.cmd1 2 ∨ 16 < byteOf w.cmd1 3)) ∧
    (∀ w ∈ [cmd 0x50 1 255 63 16 65535 0, cmd 0x50 0 1 0 0 0 0, cmd 0x50 1 16 2 4 100 0],
      Takes (feed quiet w) 0x50 w [] ∧ inService (feed quiet w) ∧
      Takes (feed importing w) 0x50 w [] ∧ ¬inService (feed importing w) ∧
      byteOf w.cmd1 0 ≤ 1 ∧ byteOf w.cmd1 1 ≠ 0 ∧ byteOf w.cmd1 2 ≤ 63 ∧
      byteOf w.cmd1 3 ≤ 16) ∧
    (feed quiet (cmd 0x50 1 16 2 4 100 0)).policy.scrubInterval =
      lowHalf (cmd 0x50 1 16 2 4 100 0).cmd2 := by decide +kernel

theorem witness_adopt_default :
    (∀ w ∈ [cmd 0x52 0 0 0 0 0 0], Takes (feed quiet w) 0x52 w [] ∧
      (feed quiet w).phase ≠ .staged ∧ Takes (feed (locked staged) w) 0x52 w [] ∧
      (feed (locked staged) w).phase = .staged ∧ (feed (locked staged) w).locked = true ∧
      Takes (feed staged w) 0x52 w [] ∧ (feed staged w).phase = .staged ∧
      (feed staged w).locked = false ∧
      [0, 1, 2, 3, 5, 6, 7] = (List.finRange 64).filter (fun f =>
        decide (((feed staged w).frame f).state = .free)) ∧
      3 = min 48 (7 - (feed staged w).policy.defaultReserve)) := by decide +kernel

theorem witness_export :
    (∀ w ∈ [cmd 0x68 0 0 0 0 0 0], Takes (feed importing w) 0x68 w [] ∧
      ¬inService (feed importing w) ∧ Takes (feed quiet w) 0x68 w [] ∧
      inService (feed quiet w) ∧ (feed quiet w).exportS = none) ∧
    (∀ w ∈ [cmd 0x69 0 0 0 0 0 0], Takes (feed importing w) 0x69 w [] ∧
      Takes (feed quiet w) 0x69 w [] ∧ inService (feed quiet w) ∧ (feed quiet w).exportS = none) ∧
    ∀ n ∈ [0, 1, 64, 65, 112, 113], ∀ w ∈ [cmd 0x69 0 0 0 0 0 0],
      Takes (feed { quiet with exportS := some ⟨n, 0, 0⟩ } w) 0x69 w [] ∧
      inService (feed { quiet with exportS := some ⟨n, 0, 0⟩ } w) ∧
      (feed { quiet with exportS := some ⟨n, 0, 0⟩ } w).generation = 0 ∧
      (feed { quiet with exportS := some ⟨n, 0, 0⟩, generation := 1 } w).generation ≠ 0 ∧
      (n ≤ 112 ∨ n = 113) ∧
      (n = 0 ∨ (∃ f : FrameNo, n = f.val + 1) ∨ (∃ i : SliceNo, n = i.val + 65) ∨ n = 113) := by
  decide +kernel

theorem witness_import_sessions :
    (∀ w ∈ [cmd 0x60 0 0 0 0 0 0], Takes (feed quiet w) 0x60 w [] ∧
      (feed quiet w).phase ≠ .staged ∧ Takes (feed (locked staged) w) 0x60 w [] ∧
      (feed (locked staged) w).phase = .staged ∧ (feed (locked staged) w).locked = true ∧
      Takes (feed staged w) 0x60 w [] ∧ (feed staged w).phase = .staged ∧
      (feed staged w).locked = false) ∧
    ∀ w ∈ [cmd 0x63 0 0 0 0 0 0], Takes (feed quiet w) 0x63 w [] ∧
      (feed quiet w).phase ≠ .importing ∧ Takes (feed importing w) 0x63 w [] ∧
      (feed importing w).phase = .importing ∧ (feed importing w).importS = some .opened := by
  decide +kernel

/-- IMPORT_RECORD words: an index and the two words of a record. -/
def imp (n : Nat) (r : Word64) : CmdWord :=
  ⟨word4 0x61 0x5A 0 0, word4 n 0 0 0, r.extractLsb' 32 32, r.extractLsb' 0 32⟩

/-- IMPORTING, with records up to `n` accepted. -/
def midImport (n : Nat) (received : Option Word32) : State :=
  { importing with
    importS := some { ImportSession.opened with expected := n, check := 5, received := received } }

theorem witness_import_record :
    (∀ w ∈ [imp 114 (record8 4 0 0 0 0 0 0 0), imp 0 (record8 1 1 65 0 0 0 0 0),
        imp 1 (record8 2 64 2 0xFF 0xFF 0 0 0), imp 1 (record8 2 0 1 0xFF 0xFF 0 0 0),
        imp 65 (record8 3 48 0 0 0 0 0 0), imp 5 (record8 5 0 0 0 0 0 0 0)],
      ¬(byteOf w.cmd1 0 ≤ 113 ∧ imageFieldsInRange (w.cmd2 ++ w.cmd3) = true) ∧
      Takes (feed quiet w) 0x61 w [] ∧ (feed quiet w).phase ≠ .importing ∧
      Takes (feed importing w) 0x61 w [] ∧ (feed importing w).phase = .importing) ∧
    (∀ p ∈ [(0, record8 1 1 64 0 0xFF 0xFF 0 0), (1, record8 2 0 4 47 0xFF 5 255 255),
        (64, record8 2 63 3 0xFF 63 0 0 0), (65, record8 3 0 1 1 15 0 0 0),
        (112, record8 3 47 0 0 0 0 0 0), (113, record8 4 0 0 0 1 2 3 4)],
      ∀ w ∈ [imp p.1 p.2], byteOf w.cmd1 0 ≤ 113 ∧
      imageFieldsInRange (w.cmd2 ++ w.cmd3) = true ∧
      Takes (feed quiet w) 0x61 w [] ∧ (feed quiet w).phase ≠ .importing ∧
      Takes (feed (midImport p.1 none) w) 0x61 w [] ∧
      (feed (midImport p.1 none) w).phase = .importing ∧ byteOf w.cmd1 0 = p.1 ∧
      imageRecordAt (w.cmd2 ++ w.cmd3) (byteOf w.cmd1 0) = true ∧
      (p.1 = 0 ∨ p.1 ≤ 112 ∨ p.1 = 113)) ∧
    ∀ w ∈ [imp 1 (record8 2 1 2 0xFF 0xFF 0 0 0)],
      byteOf w.cmd1 0 ≤ 113 ∧ imageFieldsInRange (w.cmd2 ++ w.cmd3) = true ∧
      Takes (feed (midImport 1 none) w) 0x61 w [] ∧
      imageRecordAt (w.cmd2 ++ w.cmd3) (byteOf w.cmd1 0) = false := by decide +kernel

/-- The image of a board with frames 0 to 7 present and nothing mapped, but for what frames hold. -/
def image (fs : FrameNo → ImgFrame) (received : Option Word32) : ImportSession :=
  { expected := 114, check := 5, header := some { present := 8, generation := 3 }
    frames := Vector.ofFn fun f => some (fs f)
    slices := Vector.ofFn fun i => some
      { mapped := decide (i = 0), protect := false, domain := 0xF#4 }
    received := received }

def imgFrame (st : ImgState) : ImgFrame :=
  { state := st, bound := none, sparePos := none, suspect := none, corrected := 0
    uncorrectable := 0 }

/-- Slice 0 on frame 5, frame 6 the one spare. -/
def goodImage : ImportSession :=
  image (fun f =>
    if f = 5 then { imgFrame .bound with bound := some 0 }
    else if f = 6 then { imgFrame .spare with sparePos := some 0 }
    else if f.val < 8 then imgFrame .free else ImgFrame.missing) (some (~~~5))

/-- The good image with one frame record replaced. -/
def badImage (f : FrameNo) (r : ImgFrame) : ImportSession :=
  { goodImage with frames := goodImage.frames.set f (some r) }

/-- R164's table, a failed condition a line: the image, and the lowest record index named. -/
def badImages : List (ImportSession × Nat) :=
  [(badImage 0 { imgFrame .free with bound := some 9 }, 1),
   (badImage 0 { imgFrame .free with sparePos := some 0 }, 1),
   (badImage 0 (imgFrame .retired), 1),
   (badImage 63 { imgFrame .absent with corrected := 1 }, 64),
   (badImage 7 { imgFrame .bound with bound := some 0 }, 6),
   ({ goodImage with
      slices := goodImage.slices.set 47 (some
        { mapped := true, protect := false, domain := 0#4 }) }, 112),
   (badImage 6 { imgFrame .spare with sparePos := some 1 }, 7),
   (badImage 7 { imgFrame .spare with sparePos := some 0 }, 7),
   ({ goodImage with header := some { present := 7, generation := 3 } }, 0)]

/-- What `ImportSession.named` asks of the header and of a slice record. -/
abbrev headerOk (e : ImportSession) : Prop := (e.header.map (·.present)).getD 0 =
  ((List.finRange 64).filter fun f => decide ((e.frame f).state ≠ .absent)).length

abbrev sliceOk (e : ImportSession) (i : SliceNo) : Prop := (e.slice i).mapped = true ↔
  ∃ f : FrameNo, (e.frame f).state = .bound ∧ (e.frame f).bound = some i

theorem not_named_below {e : ImportSession} {n : Nat} (h0 : 0 < n → headerOk e)
    (hf : ∀ f : FrameNo, f.val + 1 < n → ¬e.frameNamed f)
    (hs : ∀ i : SliceNo, i.val + 65 < n → sliceOk e i) : ∀ k, k < n → ¬e.named k := by
  rintro k hk (⟨rfl, h⟩ | ⟨f, rfl, h⟩ | ⟨i, rfl, h⟩)
  · exact h (h0 hk)
  · exact hf f hk h
  · exact h (hs i hk)

theorem goodImage_not_named (k : Nat) : ¬goodImage.named k :=
  not_named_below (n := k + 1) (fun _ => by decide +kernel)
    (fun f _ => (by decide +kernel : ∀ f : FrameNo, ¬goodImage.frameNamed f) f)
    (fun i _ => (by decide +kernel : ∀ i : SliceNo, sliceOk goodImage i) i) k (Nat.lt_succ_self k)

theorem witness_named_records :
    ∀ p ∈ badImages, p.1.expected = 114 ∧ p.1.received = some (~~~p.1.check) ∧ p.1.named p.2 ∧
      ∀ k, k < p.2 → ¬p.1.named k := by
  intro p hp
  have h1 : ∀ p ∈ badImages, p.1.expected = 114 ∧ p.1.received = some (~~~p.1.check) := by
    decide +kernel
  have h2 : ∀ p ∈ badImages, p.1.named p.2 := by decide +kernel
  have h3 : ∀ p ∈ badImages, 0 < p.2 → headerOk p.1 := by decide +kernel
  have h4 : ∀ p ∈ badImages, ∀ f : FrameNo, f.val + 1 < p.2 → ¬p.1.frameNamed f := by
    decide +kernel
  have h5 : ∀ p ∈ badImages, ∀ i : SliceNo, i.val + 65 < p.2 → sliceOk p.1 i := by decide +kernel
  exact ⟨(h1 p hp).1, (h1 p hp).2, h2 p hp, not_named_below (h3 p hp) (h4 p hp) (h5 p hp)⟩

theorem witness_import_end_refusals :
    (∀ w ∈ [cmd 0x62 0 0 0 0 0 0], Takes (feed quiet w) 0x62 w [] ∧
      (feed quiet w).phase ≠ .importing ∧
      Takes (feed (midImport 113 none) w) 0x62 w [] ∧
      (feed (midImport 113 none) w).phase = .importing ∧ 113 < 114 ∧
      Takes (feed { importing with importS := some goodImage } w) 0x62 w []) ∧
    ((image (fun _ => ImgFrame.missing) (some 5)).received = some 5 ∧
      ~~~(image (fun _ => ImgFrame.missing) (some 5)).check ≠ (5 : Word32)) ∧
    (goodImage.expected = 114 ∧ goodImage.received = some (~~~goodImage.check) ∧
      (goodImage.frame 5).state = .bound ∧
      ((partWith .importing fun _ => frameIn .retired (some .software)).frame 5).state = .retired ∧
      ∀ g : FrameNo, g < 5 → (goodImage.frame g).state ≠ .bound) ∧
    goodImage.inconsistent = none ∧ ∀ k, ¬goodImage.named k :=
  ⟨by decide +kernel, by decide +kernel, by decide +kernel, by decide +kernel, goodImage_not_named⟩

/-- R164: each of the bad images is refused MISMATCH, group 1, with the index its condition names. -/
theorem test_import_end_mismatch : ∀ p ∈ badImages,
    answer .importEnd { importing with importS := some p.1 } (cmd 0x62 0 0 0 0 0 0) =
      some (.mismatch, word4 1 p.2 0 0, 0#32, 0#32) := by decide +kernel

theorem importing_laws : MapLaws { importing with importS := some goodImage } where
  sliceFrame := by decide +kernel
  sliceChan := by decide +kernel
  target := by decide +kernel
  spare := by decide +kernel
  retire := by decide +kernel
  suspect := by decide +kernel
  phase := by decide +kernel
  chain := chainLaw_of (by decide +kernel) (by decide +kernel)
  poison := ⟨by decide, by decide, fun _ h => by cases h⟩
  presence := by decide +kernel
  walk := by decide +kernel
  session := by decide +kernel

theorem witness_import_commit :
    let w := cmd 0x62 0 0 0 0 0 0
    let s := feed { importing with importS := some goodImage } w
    Takes s 0x62 w [] ∧ MapLaws s ∧ s.phase = .importing ∧ s.importS = some goodImage ∧
      goodImage.expected = 114 ∧ goodImage.received = some (~~~goodImage.check) ∧
      goodImage.inconsistent = none ∧
      ∀ f : FrameNo, ¬((goodImage.frame f).state = .bound ∧
        ((s.frame f).state = .absent ∨ (s.frame f).state = .retired)) :=
  ⟨by decide +kernel, mapLaws_feed importing_laws _ _ _, rfl, rfl, rfl, rfl, by decide +kernel,
    by decide +kernel⟩

/-! ## Witnesses: power, the aperture and the registers -/

theorem witness_power_on :
    (presentIn #v[0, 3, 0, 0] 16 = true ∧
      ∀ g : FrameNo, g < 16 → presentIn #v[0, 3, 0, 0] g = false) ∧
    ∀ f : FrameNo, presentIn #v[0, 0, 0, 0] f = false := by decide +kernel

theorem witness_power_and_requests :
    quiet.powerOff.powered = false ∧ isPowerEvent .map = false ∧
      (∀ b : Bool, (Instr.map) ≠ .warmRestartInput b) ∧ quiet.powered = true ∧
      quiet.warmPin = false ∧ { quiet with warmPin := true }.warmPin = true ∧
      quiet.warmReq = 0 := by decide +kernel

/-- A warm restart is asked for. -/
def asked (s : State) : State := { s with warmReq := 1 }

theorem mapLaws_asked {s : State} (h : MapLaws s) : MapLaws (asked s) :=
  ⟨h.sliceFrame, h.sliceChan, h.target, h.spare, h.retire, h.suspect, h.phase, h.chain, h.poison,
    h.presence, h.walk, h.session⟩

/-- Four frames in socket A, the first under test. -/
def testing : State := State.powerOn #v[1, 0, 0, 0] [] false []

theorem testing_laws : MapLaws testing where
  sliceFrame := by decide +kernel
  sliceChan := by decide +kernel
  target := by decide +kernel
  spare := by decide +kernel
  retire := by decide +kernel
  suspect := by decide +kernel
  phase := by decide +kernel
  chain := chainLaw_of (by decide +kernel) (by decide +kernel)
  poison := ⟨by decide, by decide, fun _ h => by cases h⟩
  presence := by decide +kernel
  walk := by decide +kernel
  session := by decide +kernel

theorem witness_warm_restart :
    (MapLaws (asked (moving 16383)) ∧ (asked (moving 16383)).powered = true ∧
      0 < (asked (moving 16383)).warmReq ∧ ((moving 16383).chan 0).state.migration = some (mig0 16383) ∧
      ((moving 16383).chan 2).state = .idle ∧ (moving 16383).phase ≠ .inventory) ∧
    (asked (moving 16383)).walk.frame = none ∧
    MapLaws (asked testing) ∧ (asked testing).powered = true ∧ 0 < (asked testing).warmReq ∧
      (asked testing).walk.frame = some 0 :=
  ⟨⟨mapLaws_asked moving_laws, rfl, by decide, by decide +kernel, by decide +kernel,
    by decide +kernel⟩, by decide +kernel, mapLaws_asked testing_laws, rfl, by decide,
    by decide +kernel⟩

theorem witness_aperture :
    quiet.powered = true ∧ { quiet with cmdQ := List.replicate 7 quiet.staging }.cmdQ.length < 8 ∧
    8 ≤ { quiet with cmdQ := List.replicate 8 quiet.staging }.cmdQ.length ∧ quiet.rspQ = [] ∧
    { quiet with rspQ := [⟨1, 2, .ok, 0, 0, 0⟩] }.rspQ = ⟨1, 2, .ok, 0, 0, 0⟩ :: [] ∧
    (0x000000A4#32 ≠ 0x000000A5#32) ∧ (∀ n, PlainReg.qstat ≠ .cmd n) ∧
    (⟨1, true, true⟩ : BusAccess) ≠ servedBy0 ∧ (⟨0, false, true⟩ : BusAccess) ≠ servedBy0 ∧
    (⟨0, true, false⟩ : BusAccess) ≠ servedBy0 := by decide +kernel

theorem witness_registers :
    quiet.powered = true ∧ quiet.cmdQ.length ≤ 8 ∧ quiet.rspQ.length ≤ 8 ∧ quiet.rspQ = [] ∧
    quiet.flags.getLsbD 0 = false ∧
    { quiet with rspQ := List.replicate 8 ⟨1, 2, .ok, 0, 0, 0⟩ }.rspQ =
      ⟨1, 2, .ok, 0, 0, 0⟩ :: List.replicate 7 ⟨1, 2, .ok, 0, 0, 0⟩ := by decide +kernel

/-! ## Witnesses: the data port and the modules -/

/-- Slice 0 for initiator 0 alone, slice 1 write protected, a poison entry at slice 2, line 9. -/
def guardedPart : State :=
  { quiet with
    slices := (quiet.slices.set 0
        { loc := .mapped 0, protect := false, domain := 0x1#4 }).set 1
      { loc := .mapped 2, protect := true, domain := 0xF#4 }
    poison := [(2, 9)] }

theorem witness_transaction_checks :
    guardedPart.powered = true ∧ (∀ i : Initiator, (guardedPart.port i).txn = .idle) ∧
    0x0C000000 ≤ 0x0C000000 ∧
    (0x0BFFFFFF / 0x400000 = (47 : SliceNo).val ∧ (guardedPart.slice 47).loc = .unmapped) ∧
    (0 / 0x400000 = (0 : SliceNo).val ∧ (guardedPart.slice 0).loc ≠ .unmapped ∧
      (guardedPart.slice 0).domain.getLsbD (3 : Initiator).val = false) ∧
    (0x7FFFFF / 0x400000 = (1 : SliceNo).val ∧ (guardedPart.slice 1).loc ≠ .unmapped ∧
      (guardedPart.slice 1).domain.getLsbD (3 : Initiator).val = true ∧
      (guardedPart.slice 1).protect = true) ∧
    (0x800900 / 0x400000 = (2 : SliceNo).val ∧ (guardedPart.slice 2).loc ≠ .unmapped ∧
      (guardedPart.slice 2).domain.getLsbD (3 : Initiator).val = true ∧
      (guardedPart.slice 2).protect = false ∧ 0x800900 % 0x400000 / 256 = (9 : LineNo).val ∧
      (2, 9) ∈ guardedPart.poison) := by decide +kernel

/-- Initiator 0 has a transaction outstanding. -/
def outstanding0 : State :=
  { quiet with
    ports := quiet.ports.set 0
      { txn := .held { op := .writeLine sevens, slice := 0, line := 0 } .scrubber, answer := none } }

theorem witness_second_presentation :
    outstanding0.powered = true ∧ (outstanding0.port 0).txn ≠ .idle := by decide +kernel

theorem witness_reads_steered :
    quiet.powered = true ∧ (quiet.port 3).txn = .idle ∧ 0xBFFFFF / 0x400000 = (2 : SliceNo).val ∧
    0xBFFFFF % 0x400000 / 256 = (16383 : LineNo).val ∧ (quiet.slice 2).loc.source = some 7 ∧
    ((quiet.slice 2).domain.getLsbD (3 : Initiator).val = true ∧
      (2, 16383) ∉ quiet.poison) ∧
    0xBFFFFF % 256 / 8 = (31 : WordIx).val ∧ (0 : Socket).val = (7 : FrameNo).val / 16 := by
  decide +kernel

/-- The scrubber holds line 0 of frame 0. -/
def scrubbing : State :=
  { quiet with places := quiet.places.set 4 (.claimed ⟨0, 0⟩ []) }

/-- The line a place claims. -/
def claimLine : Place → Option FrameLine
  | .claimed fl _ => some fl
  | _ => none

theorem ownerPlace_injective : ∀ o p : Owner, ownerPlace o = ownerPlace p → o = p := by
  rintro (c | _) (d | _)
  · revert c d; decide
  · revert c; decide
  · revert d; decide
  · intro _; rfl

theorem claimsApart_of {s : State} (h : ∀ j k : Fin 5, claimLine s.places[j] ≠ none →
    claimLine s.places[j] = claimLine s.places[k] → j = k) : claimsApart s := by
  intro o p fl ho hp
  have key : ∀ q : Owner, (s.place q).claims fl = true →
      claimLine s.places[ownerPlace q] = some fl := by
    intro q hq
    have hq' : (s.places[ownerPlace q]).claims fl = true := hq
    cases hc : s.places[ownerPlace q] with
    | claimed g held => rw [hc] at hq'; simp [Place.claims] at hq'; simp [claimLine, hq']
    | empty => rw [hc] at hq'; cases hq'
    | requested g => rw [hc] at hq'; cases hq'
  exact ownerPlace_injective o p (h _ _ (by rw [key o ho]; simp) ((key o ho).trans (key p hp).symm))

theorem witness_writes :
    (scrubbing.powered = true ∧ (scrubbing.port 1).txn = .idle ∧
      0 / 0x400000 = (0 : SliceNo).val ∧ 0 % 0x400000 / 256 = (0 : LineNo).val ∧
      (scrubbing.slice 0).loc.source = some 0 ∧ 0 % 256 / 8 = (0 : WordIx).val ∧
      (scrubbing.slice 0).domain.getLsbD (1 : Initiator).val = true ∧
      (scrubbing.slice 0).protect = false ∧ (0, 0) ∉ scrubbing.poison ∧
      scrubbing.place .scrubber = .claimed ⟨0, 0⟩ [] ∧ claimsApart scrubbing) ∧
    (quiet.slice 0).loc = .mapped 0 ∧ (∀ o : Owner, (quiet.place o).claims ⟨0, 0⟩ = false) ∧
    ((moving 5).slice 0).loc = .migrating 0 0 ∧
      ((moving 5).chan 0).state.migration = some (mig0 5) ∧
      (mig0 5).cursor ≤ (5 : LineNo).val ∧ (4 : LineNo).val < (mig0 5).cursor ∧
      ∀ o : Owner, ((moving 5).place o).claims ⟨0, 4⟩ = false := by
  have he : ∀ o : Owner, quiet.place o = .empty := fun o =>
    (by decide +kernel : ∀ k : Fin 5, quiet.places[k] = .empty) (ownerPlace o)
  have hm : ∀ o : Owner, (moving 5).place o = .empty := he
  refine ⟨⟨rfl, ?_, ?_, ?_, ?_, ?_, ?_, ?_, ?_, ?_, claimsApart_of (by decide +kernel)⟩, ?_,
    fun o => by rw [he o]; rfl, ?_, ?_, ?_, ?_, fun o => by rw [hm o]; rfl⟩ <;> decide +kernel

theorem witness_outcomes :
    (∀ r ∈ [({ quiet.frame 3 with corrected := 15 } : FrameRec)],
      quiet.policy.threshold ≤ (r.counted .corrected).corrected ∧
      (r.counted .corrected).suspect = none ∧ (r.counted .corrected).state = .free) ∧
    ((quiet.frame 1).counted .uncorrectable).suspect = none ∧
      ((quiet.frame 1).counted .uncorrectable).state = .spare ∧
    ((quiet.frame 0).counted .uncorrectable).suspect = none ∧
      ((quiet.frame 0).counted .uncorrectable).state = .bound 0 ∧
    ((quiet.frame 0).counted .corrected).corrected < quiet.policy.threshold ∧
    ((quiet.frame 2).counted .uncorrectable).suspect ≠ none ∧
    ((quiet.frame 63).counted .uncorrectable).state = .absent ∧
    ((quiet.frame 4).counted .uncorrectable).state = .retired ∧
    (((moving 5).frame 3).counted .uncorrectable).state = .target ∧
    ((testing.frame 0).counted .uncorrectable).state = .untested := by decide +kernel

/-- Initiator 1 has a transaction steered to frame 7. -/
def steered (t : Txn) (n : Nat) (s : State) : State :=
  { s with ports := s.ports.set 1 { txn := .steered t 7 none n, answer := none } }

def readOp : ModOp := liveOp (.dataPort 1) ⟨7, 9⟩ .read
def writeOp : ModOp := liveOp (.dataPort 1) ⟨7, 9⟩ (.writeLine sevens)

/-- Initiator 1's read of word 31 of slice 2, line 9 is granted. -/
def reading : State := inPort (steered { op := .readWord 31, slice := 2, line := 9 } 1 quiet) readOp

/-- The list full of slice 0's first lines. -/
def fullList : List (SliceNo × LineNo) := (List.range 32).map fun n => (0, lineNo n)

theorem witness_read_outcome :
    reading.powered = true ∧ (reading.arb 0).port = readOp :: [] ∧ readOp.req = .dataPort 1 ∧
    readOp.act = .read ∧ readOp.standing = .live ∧
    (reading.port 1).txn = .steered { op := .readWord 31, slice := 2, line := 9 } 7 none 1 ∧
    (reading.slice 2).loc ≠ .unmapped ∧ (2, 9) ∉ reading.poison ∧ reading.poison.length < 32 ∧
    (2, 9) ∈ guardedPart.poison ∧ (reading.slice 47).loc = .unmapped ∧
    32 ≤ fullList.length ∧ (2, 9) ∉ fullList := by
  refine ⟨?_, ?_, ?_, ?_, ?_, ?_, ?_, ?_, ?_, ?_, ?_, ?_, ?_⟩ <;> decide +kernel

theorem witness_write_complete :
    ∀ n ∈ [1, 2],
      ∀ s ∈ [inPort (steered { op := .writeLine sevens, slice := 2, line := 9 } n quiet) writeOp],
      s.powered = true ∧ (s.arb 0).port = writeOp :: [] ∧ writeOp.req = .dataPort 1 ∧
      writeOp.act ≠ .read ∧ writeOp.standing = .live ∧
      (s.port 1).txn = .steered { op := .writeLine sevens, slice := 2, line := 9 } 7 none n := by
  decide +kernel

theorem witness_abandoned :
    ∀ st ∈ [Standing.live, .aborted, .restarted], ∀ op ∈ [{ readOp with standing := st },
        { writeOp with standing := st }],
      (inPort quiet op).powered = true ∧ ((inPort quiet op).arb 0).port = op :: [] ∧
      op.standing = st := by decide +kernel

def scrubOp : ModOp := liveOp .scrubber ⟨0, 1⟩ .read
def chanOp (c : ChanNo) : ModOp := liveOp (.channel c) ⟨0, 2⟩ .read
def walkOp : ModOp := liveOp .inventory ⟨0, 0⟩ (.writeLine (patternLine ⟨0, 0⟩))

/-- The last of a list of two is its only split after one. -/
theorem split_two {a b x : ModOp} {l r : List ModOp} (h : [a, b] = l ++ x :: r) :
    l = [] ∧ x = a ∨ l = [a] ∧ x = b := by
  rcases l with _ | ⟨y, _ | ⟨z, t⟩⟩
  · simp at h; exact .inl ⟨rfl, h.1.symm⟩
  · simp at h; exact .inr ⟨by rw [h.1], h.2.1.symm⟩
  · simp at h

theorem witness_arbiter :
    (quiet.arb 0).waiting = [] ∧ quiet.powered = true ∧
    (((asking quiet [scrubOp, readOp]).arb 0).waiting = [scrubOp] ++ readOp :: [] ∧
      eligibleAfter [scrubOp] readOp ∧ readOp.req.isDataPort = true ∧
      ∀ b x a, ((asking quiet [scrubOp, readOp]).arb 0).waiting = b ++ x :: a →
        eligibleAfter b x → x.req.isDataPort = true → [scrubOp].length ≤ b.length) ∧
    (((asking quiet [chanOp 0, scrubOp]).arb 0).waiting = [chanOp 0] ++ scrubOp :: [] ∧
      eligibleAfter [chanOp 0] scrubOp ∧ scrubOp.req = .scrubber ∧
      (∀ b x a, ((asking quiet [chanOp 0, scrubOp]).arb 0).waiting = b ++ x :: a →
        eligibleAfter b x → x.req.isDataPort = false) ∧
      ∀ b x a, ((asking quiet [chanOp 0, scrubOp]).arb 0).waiting = b ++ x :: a →
        eligibleAfter b x → x.req = .scrubber → [chanOp 0].length ≤ b.length) ∧
    ((asking quiet [walkOp]).arb 0).waiting = [] ++ walkOp :: [] ∧ walkOp.req = .inventory := by
  refine ⟨by decide +kernel, rfl, ⟨rfl, by unfold eligibleAfter; decide +kernel, rfl, ?_⟩,
    ⟨rfl, by unfold eligibleAfter; decide +kernel, rfl, ?_, ?_⟩, rfl, rfl⟩
  · intro b x a h _ hx
    rcases split_two (show [scrubOp, readOp] = b ++ x :: a from h) with ⟨rfl, rfl⟩ | ⟨rfl, rfl⟩
    · exact absurd hx (by decide)
    · decide
  · intro b x a h _
    rcases split_two (show [chanOp 0, scrubOp] = b ++ x :: a from h) with ⟨rfl, rfl⟩ | ⟨rfl, rfl⟩ <;>
      rfl
  · intro b x a h _ hx
    rcases split_two (show [chanOp 0, scrubOp] = b ++ x :: a from h) with ⟨rfl, rfl⟩ | ⟨rfl, rfl⟩
    · exact absurd hx (by decide)
    · decide

theorem witness_arbiter_rotation :
    ((asking quiet [chanOp 1, { chanOp 0 with fl := ⟨0, 3⟩ }]).arb 0).waiting =
        [chanOp 1] ++ { chanOp 0 with fl := ⟨0, 3⟩ } :: [] ∧
      eligibleAfter [chanOp 1] { chanOp 0 with fl := ⟨0, 3⟩ } ∧
      (∀ b x a, ((asking quiet [chanOp 1, { chanOp 0 with fl := ⟨0, 3⟩ }]).arb 0).waiting =
        b ++ x :: a → x.req.isDataPort = false ∧ x.req ≠ .scrubber) ∧
      (∀ b x a, ((asking quiet [chanOp 1, { chanOp 0 with fl := ⟨0, 3⟩ }]).arb 0).waiting =
        b ++ x :: a → x.req = .channel 0 → [chanOp 1].length ≤ b.length) ∧
      ∀ d : ChanNo,
        (d - ((asking quiet [chanOp 1, { chanOp 0 with fl := ⟨0, 3⟩ }]).arb 0).lastChan - 1).val <
          ((0 : ChanNo) -
            ((asking quiet [chanOp 1, { chanOp 0 with fl := ⟨0, 3⟩ }]).arb 0).lastChan - 1).val →
        False := by
  refine ⟨rfl, by unfold eligibleAfter; decide +kernel, ?_, ?_, by decide +kernel⟩
  · intro b x a h
    rcases split_two (show [chanOp 1, { chanOp 0 with fl := ⟨0, 3⟩ }] = b ++ x :: a from h) with
      ⟨rfl, rfl⟩ | ⟨rfl, rfl⟩ <;> exact ⟨rfl, by decide⟩
  · intro b x a h hx
    rcases split_two (show [chanOp 1, { chanOp 0 with fl := ⟨0, 3⟩ }] = b ++ x :: a from h) with
      ⟨rfl, rfl⟩ | ⟨rfl, rfl⟩
    · exact absurd hx (by decide)
    · decide

/-! ## Witnesses: claims, migrations and scrubs -/

/-- An owner's request on a frame line waits. -/
def requesting (s : State) (o : Owner) (fl : FrameLine) : State :=
  { s with places := s.places.set (ownerPlace o) (.requested fl), reqOrder := [o] }

/-- Channel 0 and the scrubber have asked for one line, in the given order. -/
def bothRequest (fl : FrameLine) (order : List Owner) : State :=
  { quiet with
    places := (quiet.places.set 0 (.requested fl)).set 4 (.requested fl)
    reqOrder := order }

theorem witness_claim_grant :
    (∀ p ∈ [(Owner.channel 3, (⟨0, 9⟩ : FrameLine)), (.scrubber, ⟨0, 9⟩), (.scrubber, ⟨4, 9⟩)],
      ∀ s ∈ [requesting quiet p.1 p.2], s.powered = true ∧ s.place p.1 = .requested p.2 ∧
        s.lineFree p.2 = true ∧ s.reqOrder = [] ++ p.1 :: [] ∧
        (∀ q ∈ ([] : List Owner), (s.place q).requests p.2 = false) ∧
        s.scrub.expiryPending = false ∧
        { s with scrub := { s.scrub with expiryPending := true } }.scrub.expiryPending = true ∧
        (s.frame 0).state.inUse = true ∧ (s.frame 4).state.inUse = false) ∧
    (requesting scrubbing (.channel 0) ⟨0, 0⟩).place (.channel 0) = .requested ⟨0, 0⟩ ∧
      (requesting scrubbing (.channel 0) ⟨0, 0⟩).lineFree ⟨0, 0⟩ = false := by decide +kernel

theorem witness_claim_grant_in_turn :
    (∀ o : Owner, quiet.place o = .empty ∧ (quiet.place o).requests ⟨0, 9⟩ = false) ∧
    (∀ s ∈ [bothRequest ⟨0, 9⟩ [.channel 0, .scrubber]], s.powered = true ∧
      s.place .scrubber = .requested ⟨0, 9⟩ ∧ s.lineFree ⟨0, 9⟩ = true ∧
      s.reqOrder = [] ++ .channel 0 :: [.scrubber] ∧ s.place (.channel 0) = .requested ⟨0, 9⟩ ∧
      Owner.channel 0 ≠ .scrubber) ∧
    ∀ s ∈ [bothRequest ⟨4, 9⟩ [.scrubber, .channel 0]], s.powered = true ∧
      s.place .scrubber = .requested ⟨4, 9⟩ ∧ s.lineFree ⟨4, 9⟩ = true ∧
      s.reqOrder = [] ++ .scrubber :: ([] ++ .channel 0 :: []) ∧
      (s.frame 4).state.inUse = false ∧ s.place (.channel 0) = .requested ⟨4, 9⟩ ∧
      Owner.channel 0 ≠ .scrubber := by
  refine ⟨?_, by decide +kernel, by decide +kernel⟩
  rintro (c | _)
  · revert c; decide +kernel
  · decide +kernel

/-- Where a scrub leads from a line, from a frame's last line, and from the last of all. -/
theorem witness_moves_on :
    MovesOn { quiet.scrub with line := 16382 } { quiet.scrub with line := 16383 } ∧
    MovesOn { quiet.scrub with line := 16383 } { quiet.scrub with frame := 1 } ∧
    MovesOn { quiet.scrub with frame := 63, line := 16383 } { quiet.scrub with passCount := 1 } := by
  unfold MovesOn
  refine ⟨?_, ?_, ?_⟩ <;> decide +kernel

theorem free_of_quiet {s : State} (hp : ∀ k : Fin 5, s.places[k] = .empty)
    (ha : ∀ k : Socket, (s.arb k).waiting = [] ∧ (s.arb k).port = []) (fl : FrameLine) :
    freeForClaim s fl := by
  have he : ∀ o : Owner, s.place o = .empty := fun o => hp (ownerPlace o)
  refine ⟨?_, fun o => by rw [he o]; rfl⟩
  rw [State.lineFree, claimOn_none.2 fun o => by rw [he o]; rfl, (ha _).1, (ha _).2]
  rfl

theorem witness_line_copy_begin :
    (∀ n ∈ [0, 16383], ∀ s ∈ [moving n], s.powered = true ∧
      (s.chan 0).state = .running (mig0 n) 0 ∧ (lineNo n).val = (mig0 n).cursor ∧
      s.place (.channel 0) = .empty) ∧
    (∀ fl, freeForClaim (moving 16383) fl) ∧
    { moving 0 with places := (moving 0).places.set 4 (.claimed ⟨0, 0⟩ []) }.lineFree ⟨0, 0⟩ =
      false ∧
    (((moving 16384).chan 0).state = .running (mig0 16384) 0 ∧ 16384 ≤ (mig0 16384).cursor) ∧
    (quiet.chan 0).state = .idle :=
  ⟨by decide +kernel, free_of_quiet (by decide +kernel) (by decide +kernel), by decide +kernel,
    by decide +kernel, by decide +kernel⟩

/-- Channel 0's copy at its source read, and at its target write. -/
def copyOp (n : Nat) : ModOp := liveOp (.channel 0) ⟨0, lineNo n⟩ .read
def targetOp (n : Nat) : ModOp := liveOp (.channel 0) ⟨3, lineNo n⟩ (.writeLine sevens)

theorem mapLaws_inPort {s : State} (h : MapLaws s) (op : ModOp) : MapLaws (inPort s op) :=
  ⟨h.sliceFrame, h.sliceChan, h.target, h.spare, h.retire, h.suspect, h.phase, h.chain, h.poison,
    h.presence, h.walk, h.session⟩

theorem full_laws : MapLaws { inPort (moving 16383) (copyOp 16383) with poison := fullList } := by
  have h := mapLaws_inPort moving_laws (copyOp 16383)
  refine ⟨h.sliceFrame, h.sliceChan, h.target, h.spare, h.retire, h.suspect, h.phase, h.chain,
    ⟨by decide +kernel, by decide +kernel, fun e he => ?_⟩, h.presence, h.walk, h.session⟩
  have hs : e.1 = 0 := by
    obtain ⟨n, -, rfl⟩ := List.mem_map.1 (show e ∈ (List.range 32).map fun n =>
      ((0 : SliceNo), lineNo n) from he)
    rfl
  rw [hs]
  decide +kernel

/-- Channel 0's last source read is granted. -/
def lastRead : State := inPort (moving 16383) (copyOp 16383)

theorem witness_source_outcome :
    (lastRead.powered = true ∧ (lastRead.arb 0).port = copyOp 16383 :: [] ∧
      (copyOp 16383).req = .channel 0 ∧ (copyOp 16383).act = .read ∧
      (copyOp 16383).standing = .live ∧ (lastRead.chan 0).state = .running (mig0 16383) 0 ∧
      (0, 16383) ∉ lastRead.poison ∧ lastRead.poison.length < 32 ∧
      (0, (copyOp 1).fl.line) ∈ fullList ∧ (0, (copyOp 16383).fl.line) ∉ fullList ∧
      32 ≤ fullList.length ∧ (lastRead.slice 0).loc = .migrating 0 0 ∧ (mig0 16383).origin = .free) ∧
    MapLaws { inPort (moving 16383) (copyOp 16383) with poison := fullList } ∧
    ClaimLaws { inPort (moving 16383) (copyOp 16383) with poison := fullList } := by
  refine ⟨⟨?_, ?_, ?_, ?_, ?_, ?_, ?_, ?_, ?_, ?_, ?_, ?_, ?_⟩, full_laws,
    claimLaws_of (by decide +kernel) (by decide +kernel)⟩ <;> decide +kernel

theorem witness_line_copied :
    (∀ n ∈ [0, 16382], ∀ s ∈ [inPort (moving n) (targetOp n)], s.powered = true ∧
      (s.arb 0).port = targetOp n :: [] ∧ (targetOp n).req = .channel 0 ∧
      (targetOp n).act = .writeLine sevens ∧ (targetOp n).standing = .live ∧
      (s.chan 0).state = .running (mig0 n) 0 ∧ (lineNo (n + 1)).val = (mig0 n).cursor + 1) ∧
    ClaimLaws (inPort (moving 0) (targetOp 0)) :=
  ⟨by decide +kernel, claimLaws_of (by decide +kernel) (by decide +kernel)⟩

/-- Slice 1's last line leaves the suspect frame 2, which stands in the retire queue. -/
def migOut : Migration := { mig1 with after := none, cursor := 16383 }

def leaving : State :=
  { quiet with
    slices := quiet.slices.set 1 (sliceOn (.migrating 2 1))
    frames := quiet.frames.set 6 (frameIn .target none)
    chans := quiet.chans.set 1 { state := .running migOut 2, last := .none } }

def outOp : ModOp := liveOp (.channel 1) ⟨6, lineNo 16383⟩ (.writeLine sevens)

theorem leaving_laws : MapLaws leaving where
  sliceFrame := by decide +kernel
  sliceChan := by decide +kernel
  target := by decide +kernel
  spare := by decide +kernel
  retire := by decide +kernel
  suspect := by decide +kernel
  phase := by decide +kernel
  chain := chainLaw_of (by decide +kernel) (by decide +kernel)
  poison := ⟨by decide, by decide, fun _ h => by cases h⟩
  presence := by decide +kernel
  walk := by decide +kernel
  session := by decide +kernel

theorem witness_commit :
    (∀ s ∈ [inPort (moving 16383) (targetOp 16383)], s.powered = true ∧
      (s.arb 0).port = targetOp 16383 :: [] ∧ (targetOp 16383).act = .writeLine sevens ∧
      (targetOp 16383).standing = .live ∧ (s.chan 0).state = .running (mig0 16383) 0 ∧
      (mig0 16383).cursor + 1 = 16384 ∧ (s.frame 0).suspect = none ∧
      (s.chan 1).state = .armed mig1 ∧ mig1.after = some 0 ∧ 1 ∉ s.broken ∧
      (s.slice mig1.slice).loc.source = some 2 ∧ (s.chan 2).state = .idle) ∧
    MapLaws (inPort (moving 16383) (targetOp 16383)) ∧
    ClaimLaws (inPort (moving 16383) (targetOp 16383)) :=
  ⟨by decide +kernel, mapLaws_inPort moving_laws _,
    claimLaws_of (by decide +kernel) (by decide +kernel)⟩

theorem witness_commit_from_suspect :
    (∀ s ∈ [inPort leaving outOp], s.powered = true ∧ (s.arb 0).port = outOp :: [] ∧
      outOp.req = .channel 1 ∧ outOp.act = .writeLine sevens ∧ outOp.standing = .live ∧
      (s.chan 1).state = .running migOut 2 ∧ migOut.cursor + 1 = 16384 ∧
      (s.frame 2).suspect ≠ none ∧ 2 ∈ s.retireQ) ∧
    MapLaws (inPort leaving outOp) ∧ ClaimLaws (inPort leaving outOp) :=
  ⟨by decide +kernel, mapLaws_inPort leaving_laws _,
    claimLaws_of (by decide +kernel) (by decide +kernel)⟩

theorem witness_chain_broken :
    (quiet.powered = true ∧ quiet.broken = []) ∧ broken.powered = true ∧ MapLaws broken ∧
    ClaimLaws broken ∧ broken.broken = 1 :: [] ∧ (broken.chan 1).state = .armed mig1 ∧
    (broken.slice mig1.slice).loc = .migrating 2 1 ∧ mig1.origin = .spare :=
  ⟨⟨rfl, rfl⟩, rfl, broken_laws, claimLaws_of (by decide +kernel) (by decide +kernel), rfl,
    by decide +kernel, by decide +kernel, rfl⟩

theorem witness_dispatch :
    (quiet.powered = true ∧ quiet.policy.autoRetire = true ∧ quiet.retireQ = [] ++ 2 :: [] ∧
      (quiet.frame 2).state = .bound 1 ∧ (quiet.slice 1).loc = .mapped 2 ∧
      quiet.spareQ = 1 :: [] ∧ (quiet.frame 1).state = .spare ∧ (2 : FrameNo) ≠ 1 ∧
      (quiet.chan 0).state = .idle ∧
      ∀ d : ChanNo, d < 0 → (quiet.chan d).state ≠ .idle) ∧
    { quiet with spareQ := [] }.spareQ = [] ∧
    { quiet with policy := { quiet.policy with autoRetire := false } }.policy.autoRetire = false ∧
    ∀ f ∈ (moving 5).retireQ, ∀ i : SliceNo, ((moving 5).frame f).state = .bound i →
      ∀ g : FrameNo, ((moving 5).slice i).loc ≠ .mapped g := by
  refine ⟨by decide +kernel, rfl, rfl, ?_⟩
  decide +kernel

/-- Initiator 1's word write waits on the scrubber's claim of line 0 of frame 0. -/
def holding : State :=
  { scrubbing with
    ports := scrubbing.ports.set 1
      { txn := .held { op := .writeWord 1 7#64, slice := 0, line := 0 } (.scrubber)
        answer := none }
    places := scrubbing.places.set 4 (.claimed ⟨0, 0⟩ [1])
    scrub := { scrubbing.scrub with stage := .writingBack } }

theorem witness_release :
    holding.powered = true ∧
    holding.port 1 =
      { txn := .held { op := .writeWord 1 7#64, slice := 0, line := 0 } .scrubber
        answer := none } ∧
    8 / 0x400000 = (0 : SliceNo).val ∧ 8 % 0x400000 / 256 = (0 : LineNo).val ∧
    8 % 256 / 8 = (1 : WordIx).val ∧ holding.place .scrubber = .claimed ⟨0, 0⟩ [1] ∧
    (requesting quiet .scrubber ⟨0, 9⟩).place .scrubber = .requested ⟨0, 9⟩ ∧
    holding.place (.channel 0) = .empty ∧ (holding.port 0).txn = .idle := by
  decide +kernel

theorem witness_scrub_choice :
    (∀ f : FrameNo, ((partWith .staged fun _ => frameIn .retired none).frame f).state.inUse = false) ∧
    ((quiet.frame 0).state.inUse = true ∧ quiet.scrub.frame = 0) ∧
    ((quiet.frame 5).state.inUse = true ∧ (quiet.frame 4).state.inUse = false ∧
      (4 : FrameNo) < 5 ∧ ∀ g : FrameNo, 4 < g → g < 5 → (quiet.frame g).state.inUse = false) ∧
    ((quiet.frame 63).state.inUse = false ∧ (0 : FrameNo) < 63 ∧
      (∀ g : FrameNo, 63 < g → (quiet.frame g).state.inUse = false) ∧
      ∀ g : FrameNo, g < 0 → (quiet.frame g).state.inUse = false) ∧
    (∀ fl, freeForClaim quiet fl) ∧ scrubbing.lineFree ⟨0, 0⟩ = false :=
  ⟨by decide +kernel, by decide +kernel, by decide +kernel, by decide +kernel,
    free_of_quiet (by decide +kernel) (by decide +kernel), by decide +kernel⟩

theorem witness_scrub_end :
    ClaimLaws holding ∧ holding.place .scrubber = .claimed ⟨0, 0⟩ [1] ∧
    MovesOn holding.scrub { holding.scrub with line := 1, stage := .none } := by
  refine ⟨⟨claimsApart_of (by decide +kernel), ?_, ?_, ?_, fun h => ?_⟩, by decide +kernel, ?_⟩
  · rintro i (c | _)
    · revert i c; decide +kernel
    · revert i; decide +kernel
  · rintro (c | _)
    · revert c; decide +kernel
    · decide +kernel
  · rintro (c | _) fl h
    · have : ∀ c : ChanNo, holding.place (.channel c) = .empty := by decide +kernel
      rw [this c] at h; cases h
    · have : holding.place .scrubber = .claimed ⟨0, 0⟩ [1] := by decide +kernel
      rw [this] at h; cases h
  · exact absurd h (by decide +kernel)
  · unfold MovesOn; decide +kernel

def scrubWrite : ModOp := liveOp .scrubber ⟨0, 0⟩ (.writeLine sevens)

theorem witness_scrub_outcome :
    (∀ op ∈ [scrubOp, scrubWrite], (inPort quiet op).powered = true ∧
      ((inPort quiet op).arb 0).port = op :: [] ∧ op.req = .scrubber ∧ op.standing = .live) ∧
    scrubOp.act = .read ∧ scrubWrite.act ≠ .read ∧
    ((((inPort quiet scrubOp).landed 0 scrubOp []).takeOutcome 0 .corrected).frame 0).state.inUse =
      true ∧
    ((((inPort quiet scrubOp).landed 0 scrubOp []).takeOutcome 0 .uncorrectable).frame 0).state =
      .bound 0 ∧ (0, scrubOp.fl.line) ∉ quiet.poison ∧ quiet.poison.length < 32 ∧
    (0, scrubOp.fl.line) ∈ fullList ∧
    ((((inPort quiet { scrubOp with fl := ⟨4, 0⟩ }).landed 0 { scrubOp with fl := ⟨4, 0⟩ }
      []).takeOutcome 4 .corrected).frame 4).state.inUse = false := by decide +kernel

/-! ## Witnesses: the inventory walk and the whole part -/

/-- The walk's operation on frame `f` granted, at a line of a pass. -/
def walking (f : FrameNo) (l : LineNo) (p : TestPass) (op : ModOp) : State :=
  { inPort testing op with
    walk := { testing.walk with frame := some f, pass := p, line := l, outstanding := some .read } }

theorem witness_inventory :
    (∀ (l : LineNo) (op : ModOp), (walking 0 l .read op).powered = true ∧
      ((walking 0 l .read op).arb 0).port = op :: [] ∧
      (walking 0 l .read op).walk.frame = some 0 ∧ (walking 0 l .read op).walk.line = l) ∧
    walkOp.req = .inventory ∧ walkOp.standing = .live ∧
    (lineNo (16382 + 1)).val = (16382 : LineNo).val + 1 ∧ walkOp.act ≠ .read ∧
    (∀ w : WordIx, (patternLine ⟨0, 1⟩)[w] =
      BitVec.ofNat 64 (0 % 16 * 4194304 + 1 * 256 + w.val * 8)) ∧
    ((testing.frame 1).state = .untested ∧
      ∀ h : FrameNo, 0 < h → h < 1 → (testing.frame h).state ≠ .untested) ∧
    ∀ g : FrameNo, 3 < g → (testing.frame g).state ≠ .untested := by
  refine ⟨fun _ _ => ⟨rfl, rfl, rfl, rfl⟩, rfl, rfl, rfl, ?_, ?_, ⟨?_, ?_⟩, ?_⟩
  · intro h; cases h
  all_goals decide +kernel

theorem witness_reset : State.reset.pending = [] ∧ State.reset.warmPin = false ∧
    State.reset.modules = [] := ⟨rfl, rfl, rfl⟩

theorem witness_step :
    { quiet with pending := [.dispatchStart] }.pending = .dispatchStart :: [] ∧
    step { quiet with pending := [.dispatchStart] } = exec .dispatchStart quiet := ⟨rfl, rfl⟩

theorem witness_timer :
    quiet.pending = [] ∧ { quiet with scrub := { quiet.scrub with timer := none } }.scrub.timer = none ∧
    { quiet with scrub := { quiet.scrub with timer := some 98 } }.scrub.timer = some 98 ∧
    98 + 1 < quiet.policy.scrubInterval ∧ quiet.policy.scrubInterval ≤ 99 + 1 ∧
    quiet.powered = true ∧ quiet.scrub.stage = .none ∧ holding.scrub.stage ≠ .none := by
  decide +kernel

theorem quiet_ranges : RangeLaws quiet where
  counts := by decide +kernel
  commands := by decide
  responses := by decide
  threshold := by decide
  spareLow := by decide
  interval := by decide
  reserve := by decide
  levelFlag := by decide

theorem portLaws_of {s : State} (ht : ∀ i : Initiator, (s.port i).txn = .idle ∧ s.liveOps i = []) :
    PortLaws s := by
  intro i
  rw [(ht i).1, (ht i).2]
  exact rfl

/-- A lawful state and a step of it that does something. -/
theorem witness_lawful_step :
    let s : State := { quiet with pending := [.dispatchStart] }
    MapLaws s ∧ ClaimLaws s ∧ PortLaws s ∧ RangeLaws s ∧ modulesWf s.modules ∧
      ∃ t, step s = .next t ∧ t.generation = 1 ∧ (t.slice 1).loc = .migrating 2 0 :=
  ⟨mapLaws_feed quiet_laws _ _ _, claimLaws_of (by decide +kernel) (by decide +kernel),
    portLaws_of (by decide +kernel),
    ⟨quiet_ranges.1, by decide, by decide, by decide, by decide, by decide, by decide, by decide⟩,
    by decide, _, rfl, by decide +kernel, by decide +kernel⟩

theorem staged_laws : MapLaws staged where
  sliceFrame := by decide +kernel
  sliceChan := by decide +kernel
  target := by decide +kernel
  spare := by decide +kernel
  retire := by decide +kernel
  suspect := by decide +kernel
  phase := by decide +kernel
  chain := chainLaw_of (by decide +kernel) (by decide +kernel)
  poison := ⟨by decide, by decide, fun _ h => by cases h⟩
  presence := by decide +kernel
  walk := by decide +kernel
  session := by decide +kernel

theorem witness_generation_and_phase :
    let s := feed staged (cmd 0x52 0 0 0 0 0 0)
    MapLaws s ∧ isPowerEvent .adoptDefault = false ∧ Instr.adoptDefault ≠ .warmRestart ∧
      ∃ t, exec .adoptDefault s = .next t ∧ s.mapChanged t = true ∧ t.phase ≠ s.phase :=
  ⟨mapLaws_feed staged_laws _ _ _, rfl, by decide, _, rfl, by decide +kernel, by decide +kernel⟩

theorem witness_lasting :
    let s := locked quiet
    MapLaws s ∧ s.locked = true ∧ s.phase = .active ∧ isPowerEvent .dispatchStart = false ∧
      (s.frame 2).suspect = some .software ∧ (s.frame 4).state = .retired ∧
      ∃ t, exec .dispatchStart s = .next t :=
  ⟨⟨quiet_laws.sliceFrame, quiet_laws.sliceChan, quiet_laws.target, quiet_laws.spare,
    quiet_laws.retire, quiet_laws.suspect, quiet_laws.phase, quiet_laws.chain, quiet_laws.poison,
    quiet_laws.presence, quiet_laws.walk, quiet_laws.session⟩, rfl, rfl, rfl, by decide +kernel,
    by decide +kernel, _, rfl⟩

/-- An uncorrectable read with the fault-enable bit on. -/
def faulting : State :=
  { inPort (steered { op := .readLine, slice := 2, line := 9 } 1 quiet) readOp with
    faultEnable := true }

theorem witness_fault :
    faulting.fault = false ∧ ∃ t, exec (.dataPortReadOutcome 0 .uncorrectable) faulting = .next t ∧
      t.fault = true := ⟨by decide +kernel, _, rfl, by decide +kernel⟩

theorem witness_initiators :
    (faulting.port 0).txn = .idle ∧ isPowerEvent (.dataPortReadOutcome 0 .clean) = false ∧
    (faulting.port 1).answer = none ∧
    ∃ t a, exec (.dataPortReadOutcome 0 .clean) faulting = .next t ∧ (t.port 1).answer = some a ∧
      a.data ≠ .none :=
  ⟨by decide +kernel, rfl, by decide +kernel, _,
    { resp := .okay, data := .line (faulting.contents ⟨7, 9⟩) }, rfl, rfl, fun h => by cases h⟩

theorem witness_counts :
    RangeLaws quiet ∧ isPowerEvent .dispatchStart = false ∧ Instr.dispatchStart ≠ .clearCounts ∧
      Instr.dispatchStart ≠ .importEnd ∧ ∃ t, exec .dispatchStart quiet = .next t :=
  ⟨quiet_ranges, rfl, by decide, by decide, _, rfl⟩

theorem witness_fields : (255 : Nat) < 256 ∧ 0x0C000000 ≤ 0x0C000000 ∧ (65535 : Nat) < 65536 := by
  decide

/-- The image a session of `quiet` renders. -/
def rendered : ImportSession :=
  { ImportSession.opened with
    header := some { present := quiet.presentCount, generation := quiet.generation }
    frames := Vector.ofFn fun f => some (quiet.renderedFrame f)
    slices := Vector.ofFn fun i => some (quiet.renderedSlice i) }

theorem witness_export_records :
    MapLaws quiet ∧ RangeLaws quiet ∧ (∀ f : FrameNo, (quiet.frame f).state ≠ .untested) ∧
    rendered.header = some { present := quiet.presentCount, generation := quiet.generation } ∧
    (∀ f : FrameNo, rendered.frames[f] = some (quiet.renderedFrame f)) ∧
    ∀ i : SliceNo, rendered.slices[i] = some (quiet.renderedSlice i) :=
  ⟨quiet_laws, quiet_ranges, by decide +kernel, rfl, fun f => by simp [rendered],
    fun i => by simp [rendered]⟩

/-! ## Well-formedness -/

theorem test_wf_refuses_a_wide_address : (Instr.dataPortTransaction 0 .readWord (2 ^ 32)).wf = false := by
  decide

theorem test_wf_takes_the_last_address :
    (Instr.dataPortTransaction 0 .readWord (2 ^ 32 - 1)).wf = true := by decide

theorem test_no_word_spells_a_command : decodeTableWord 32 0x10 = none := rfl

/-! ## Values the spec gives -/

/-- R156: the nine bytes of "123456789" give 0xFC89_1918. -/
theorem test_check_word :
    ~~~([0x31, 0x32, 0x33, 0x34, 0x35, 0x36, 0x37, 0x38, 0x39].foldl crcByte crcStart) =
      0xFC891918#32 := by decide +kernel

/-- Section 5.8: 0x02CF_FF08 is line 4,095, word 1 of slice 11. -/
theorem test_address : addrSlice 0x02CFFF08 = some 11 ∧ addrLine 0x02CFFF08 = 4095 ∧
    addrWord 0x02CFFF08 = 1 := by decide

/-- R124: word 0 of line 0 of frame 21 holds 0x0140_0000. -/
theorem test_pattern : (patternLine ⟨21, 0⟩)[0] = 0x01400000#64 := by decide +kernel

/-- R22: code 2 fits 8 frames, so frame 39 is present in socket C and frame 40 is not. -/
theorem test_presence : presentIn Config.resetPresence 39 = true ∧
    presentIn Config.resetPresence 40 = false := by decide

/-- R180, R181: QUERY_FRAME of the queued suspect frame 2: BOUND, slice 1, cause SOFTWARE, head of the
queue. -/
theorem test_query_frame : answer .queryFrame quiet (cmd 0x20 0 2 0 0 0 0) =
    some (.ok, 0x00040104#32, 0xFF00FF00#32, 0#32) := by decide +kernel

/-- R178: QSTAT of an empty part: eight free entries, no response, no overrun. -/
theorem test_qstat : quiet.apertureRead servedBy0 (.plain .qstat) = some (.okay, some 8#32) := by
  decide +kernel

/-! ## One step of the commands -/

/-- Section 1.6, step 1: MAP with ANY and no frame FREE is refused NO_FRAME. -/
theorem test_map_any_none : answer .map (partWith .active fun _ => frameIn .spare none)
    (cmd 0x10 34 0xFF 0 0 0x0300 0) = some (.noFrame, 0, 0, 0) := by decide +kernel

/-- Section 1.6, step 2: MAP of a named spare takes it out of the queue and advances the generation. -/
theorem test_map_spare : (after (exec .map (feed quiet (cmd 0x10 34 1 0 0 0x0300 0)))).spareQ = [] ∧
    (after (exec .map (feed quiet (cmd 0x10 34 1 0 0 0x0300 0)))).slice 34 =
      { loc := .mapped 1, protect := false, domain := 0x3#4 } := by decide +kernel

/-- Section 1.6, step 6: UNMAP of a slice on a suspect frame retires the frame. -/
theorem test_unmap_suspect : answer .unmap quiet (cmd 0x11 1 0 0 0 0 0) =
      some (.ok, 0x00000602#32, 0, 0) ∧
    (after (exec .unmap (feed quiet (cmd 0x11 1 0 0 0 0 0)))).retireQ = [] := by decide +kernel

/-- Section 1.6, steps 4 and 5: SET_ATTR advances the generation only when an attribute changes. -/
theorem test_set_attr : (after (exec .setAttr (feed quiet (cmd 0x12 0 0 0 0 0x0F01 0)))).generation = 1 ∧
    (after (exec .setAttr (feed quiet (cmd 0x12 0 0 0 0 0x0F00 0)))).generation = 0 := by
  decide +kernel

/-- Section 2.9, step 3: WITHDRAW_SPARE to a count below 2 sets SPARE_LOW; the last one SPARE_EMPTY too. -/
theorem test_withdraw_flags :
    (after (exec .withdrawSpare (feed quiet (cmd 0x22 0 1 0 0 0 0)))).flags =
      Flag.spareLow.mask ||| Flag.spareEmpty.mask := by decide +kernel

/-- Section 2.9, step 11: the dispatcher starts the oldest eligible entry onto the head spare. -/
theorem test_dispatch : ((after (exec .dispatchStart quiet)).chan 0).state =
    .running { slice := 1, target := 1, origin := .spare, after := none, by_ := .auto, cursor := 0
               poisoned := 0 } 2 := by decide +kernel

/-- R66: an abort with one waiter advances the generation once, its CHAIN_BROKEN abort once more. -/
theorem test_cancel_then_chain :
    (after (exec .cancel (feed (moving 5) (cmd 0x31 0 0 0 0 0 0)))).broken = [1] ∧
    (after (exec .cancel (feed (moving 5) (cmd 0x31 0 0 0 0 0 0)))).generation = 1 ∧
    (after (exec .chainBrokenAbort broken)).spareQ = [1, 6] := by decide +kernel

/-- Section 3.9, step 11: the last line commits, and the waiting channel starts. -/
theorem test_commit :
    ((after (exec (.lineCopyComplete 0) (inPort (moving 16383) (targetOp 16383)))).slice 0).loc =
      .mapped 3 ∧
    ((after (exec (.lineCopyComplete 0) (inPort (moving 16383) (targetOp 16383)))).chan 1).state =
      .running mig1 2 := by decide +kernel

/-- Section 5.8, step 7: the write held on a released claim is steered, here to the source alone. -/
theorem test_held_write_released :
    ((after (exec (.scrubWriteBackComplete 0) (inPort holding scrubWrite))).port 1).txn =
      .steered { op := .writeWord 1 7#64, slice := 0, line := 0 } 0 none 1 := by decide +kernel

/-- Channel 0 holds its claim on line 5, and initiator 1's write of that line waits on it. -/
def copying : State :=
  { inPort (moving 5) (targetOp 5) with
    places := quiet.places.set 0 (.claimed ⟨0, 5⟩ [1])
    ports := quiet.ports.set 1
      { txn := .held { op := .writeLine sevens, slice := 0, line := 5 } (.channel 0), answer := none } }

/-- R59, R93, R98: line 5 copied, the write held on its claim is mirrored; a CANCEL instead sends it to the
source alone (R65). -/
theorem test_copied_line_releases :
    ((after (exec (.lineCopyComplete 0) copying)).port 1).txn =
      .steered { op := .writeLine sevens, slice := 0, line := 5 } 0 (some 3) 2 ∧
    ((after (exec .cancel (feed copying (cmd 0x31 0 0 0 0 0 0)))).port 1).txn =
      .steered { op := .writeLine sevens, slice := 0, line := 5 } 0 none 1 := by decide +kernel

/-- R93: a word write below the cursor of a migrating slice asks for both frames, source first. -/
theorem test_mirror_write :
    ((after (exec (.dataPortTransaction 1 (.writeWord 7#64) 0x408) (moving 5))).arb 0).waiting =
      [liveOp (.dataPort 1) ⟨0, 4⟩ (.writeWord 1 7#64),
        liveOp (.dataPort 1) ⟨3, 4⟩ (.writeWord 1 7#64)] := by decide +kernel

/-- R99: a word write changes its word of the line and no other. -/
theorem test_word_write_lands :
    let s := { inPort (steered { op := .writeWord 1 7#64, slice := 2, line := 9 } 1 quiet)
        { writeOp with act := .writeWord 1 7#64 } with
      modules := [(moduleKey ⟨7, 9⟩, Vector.replicate 32 1#64)] }
    (after (exec (.dataPortWriteComplete 0) s)).modules =
      [(moduleKey ⟨7, 9⟩, (Vector.replicate 32 1#64).set 1 7#64)] := by decide +kernel

/-- R131: seven FREE frames and a reserve of 4 give three slices and four spares. -/
theorem test_adopt : answer .adoptDefault staged (cmd 0x52 0 0 0 0 0 0) =
      some (.ok, 0x00000403#32, 0, 1#32) ∧
    (after (exec .adoptDefault (feed staged (cmd 0x52 0 0 0 0 0 0)))).spareQ = [3, 5, 6, 7] := by
  decide +kernel

/-- Section 9.6: a commit binds frame 5 to slice 0, makes frame 6 the spare, and advances once. -/
theorem test_import_commit :
    answer .importEnd { importing with importS := some goodImage } (cmd 0x62 0 0 0 0 0 0) =
      some (.ok, 0x00000101#32, 3#32, 1#32) := by decide +kernel

/-- R157, R158, R182: record 0 of an image of `quiet`: header, version 1, eight present frames. -/
theorem test_export_header :
    answer .exportNext { quiet with exportS := some ⟨0, 0, crcStart⟩ } (cmd 0x69 0 0 0 0 0 0) =
      some (.ok, 0, 0x01010800#32, 0#32) := by decide +kernel

/-- R118: an interval of 0 stops the scrubber and drops a pending expiry. -/
theorem test_policy_interval :
    (after (exec .setPolicy (feed { quiet with scrub := { quiet.scrub with expiryPending := true } }
      (cmd 0x50 1 16 2 4 0 0)))).scrub = { quiet.scrub with timer := none } := by decide +kernel

/-- R69: a warm restart returns spares' targets, in ascending channel number, and counts each abort. -/
theorem test_warm_restart : (after (exec .warmRestart (asked (moving 5)))).spareQ = [1, 6] ∧
    (after (exec .warmRestart (asked (moving 5)))).generation = 2 := by decide +kernel

/-- R127: the last read of frame 0's test makes it FREE and takes up frame 1. -/
theorem test_frame_test_ends :
    ((after (exec (.inventoryReadOutcome 0 .clean) (walking 0 16383 .read
      (liveOp .inventory ⟨0, 16383⟩ .read)))).frame 0).state = .free ∧
    (after (exec (.inventoryReadOutcome 0 .clean) (walking 0 16383 .read
      (liveOp .inventory ⟨0, 16383⟩ .read)))).walk.frame = some 1 := by decide +kernel

/-- R139: a ninth word is dropped with CMD_OVERRUN. -/
theorem test_overrun : (after (exec (.submit servedBy0 0)
      { quiet with cmdQ := List.replicate 8 quiet.staging })).flags = Flag.cmdOverrun.mask := by
  decide +kernel

end Sys2Proof.Tests
end

section
/-! The map as a whole: what a command may do to slices, frames, channels, queues, poison list and
phase, said once for each shared operation (`MapStep`), and from it the statements about every step. -/

namespace Sys2Proof.Machine.MapProofs

open Sys2Proof Sys2Proof.Machine Sys2Proof.Machine.Laws

/-! ## Relations between the state before and after an event -/

/-- The fields that the map laws, the generation and the lock speak of are the same. -/
structure SameMap (s t : State) : Prop where
  slices : t.slices = s.slices
  states : ∀ f, (t.frame f).state = (s.frame f).state
  suspects : ∀ f, (t.frame f).suspect = (s.frame f).suspect
  chans : t.chans = s.chans
  spareQ : t.spareQ = s.spareQ
  retireQ : t.retireQ = s.retireQ
  broken : t.broken = s.broken
  poison : t.poison = s.poison
  presence : t.presence = s.presence
  phase : t.phase = s.phase
  powered : t.powered = s.powered
  running : t.walk.running = s.walk.running
  inTest : t.walk.frame = s.walk.frame
  session : t.importS.isSome = s.importS.isSome
  generation : t.generation = s.generation
  locked : t.locked = s.locked

/-- Marks that short of a power event only come: suspicion with its cause, retirement, the map lock;
and the ABSENT frames stay the same (R11, R22, R27, R32). -/
structure Lasting (s t : State) : Prop where
  suspect : ∀ f x, (s.frame f).suspect = some x → (t.frame f).suspect = some x
  retired : ∀ f, (s.frame f).state = .retired → (t.frame f).state = .retired
  absent : ∀ f, (s.frame f).state = .absent ↔ (t.frame f).state = .absent
  locked : s.locked = true → t.locked = true

/-- No slice is mapped or unmapped and both attributes of each stay (R12). -/
def KeepsAttributes (s t : State) : Prop :=
  ∀ i, ((t.slice i).loc = .unmapped ↔ (s.slice i).loc = .unmapped) ∧
    (t.slice i).protect = (s.slice i).protect ∧ (t.slice i).domain = (s.slice i).domain

/-- The moves of the phase that each command can make (R121). -/
def PhaseMove (c : Instr) (p q : Phase) : Prop :=
  (p = .inventory ∧ q = .staged ∧ ∃ k o, c = .inventoryReadOutcome k o) ∨
  (p = .staged ∧ q = .active ∧ (c = .adoptDefault ∨ c = .map)) ∨
  (p = .staged ∧ q = .importing ∧ c = .importBegin) ∨
  (p = .importing ∧ q = .staged ∧
    (c = .importAbort ∨ c = .importRecord ∨ c = .importEnd ∨ c = .warmRestart)) ∨
  (p = .importing ∧ q = .active ∧ c = .importEnd)

/-- What every command short of a power event leaves of the map, from a state that meets the map laws. -/
structure MapStep (c : Instr) (s t : State) : Prop where
  laws : MapLaws t
  generation : c ≠ .warmRestart →
    t.generation = s.generation + if s.mapChanged t then 1 else 0
  phase : t.phase ≠ s.phase → PhaseMove c s.phase t.phase
  lasting : Lasting s t
  attributes : s.locked = true → s.phase = .active → KeepsAttributes s t

/-- The map laws are kept, and nothing the generation counts changes (R9). -/
structure Still (s t : State) : Prop where
  laws : MapLaws s → MapLaws t
  slices : t.slices = s.slices
  states : ∀ f, (t.frame f).state = (s.frame f).state
  suspects : ∀ f, (t.frame f).suspect = (s.frame f).suspect
  spareQ : t.spareQ = s.spareQ
  phase : t.phase = s.phase
  generation : t.generation = s.generation
  locked : t.locked = s.locked

theorem slice_congr {s t : State} (h : t.slices = s.slices) (i : SliceNo) : t.slice i = s.slice i := by
  simp only [State.slice, h]

theorem chan_congr {s t : State} (h : t.chans = s.chans) (c : ChanNo) : t.chan c = s.chan c := by
  simp only [State.chan, h]

/-- The map laws speak of no other field. -/
theorem SameMap.laws {s t : State} (e : SameMap s t) (h : MapLaws s) : MapLaws t := by
  have hs := slice_congr e.slices
  have hc := chan_congr e.chans
  have hw : ∀ f, t.waitsUnqueued f = s.waitsUnqueued f := fun f => by
    simp only [State.waitsUnqueued, e.states, e.suspects, e.retireQ]
  constructor
  · simpa only [sliceFrameLaw, hs, e.states] using h.sliceFrame
  · simpa only [sliceChanLaw, hs, hc] using h.sliceChan
  · simpa only [targetLaw, hc, e.states] using h.target
  · simpa only [spareLaw, e.spareQ, e.states, e.phase] using h.spare
  · simpa only [retireLaw, e.retireQ, e.states, e.suspects, hw] using h.retire
  · simpa only [suspectLaw, e.states, e.suspects] using h.suspect
  · simpa only [phaseLaw, e.phase, hs] using h.phase
  · simpa only [chainLaw, hs, hc, e.broken] using h.chain
  · simpa only [poisonLaw, hs, e.poison] using h.poison
  · simpa only [presenceLaw, e.states, e.presence] using h.presence
  · simpa only [walkLaw, e.states, e.powered, e.running, e.inTest, e.phase] using h.walk
  · simpa only [sessionLaw, e.phase, e.session] using h.session

theorem SameMap.trans {s t u : State} (a : SameMap s t) (b : SameMap t u) : SameMap s u where
  slices := b.slices.trans a.slices
  states f := (b.states f).trans (a.states f)
  suspects f := (b.suspects f).trans (a.suspects f)
  chans := b.chans.trans a.chans
  spareQ := b.spareQ.trans a.spareQ
  retireQ := b.retireQ.trans a.retireQ
  broken := b.broken.trans a.broken
  poison := b.poison.trans a.poison
  presence := b.presence.trans a.presence
  phase := b.phase.trans a.phase
  powered := b.powered.trans a.powered
  running := b.running.trans a.running
  inTest := b.inTest.trans a.inTest
  session := b.session.trans a.session
  generation := b.generation.trans a.generation
  locked := b.locked.trans a.locked

theorem SameMap.still {s t : State} (e : SameMap s t) : Still s t :=
  ⟨e.laws, e.slices, e.states, e.suspects, e.spareQ, e.phase, e.generation, e.locked⟩

theorem Still.refl (s : State) : Still s s :=
  ⟨id, rfl, fun _ => rfl, fun _ => rfl, rfl, rfl, rfl, rfl⟩

theorem Still.trans {s t u : State} (a : Still s t) (b : Still t u) : Still s u where
  laws h := b.laws (a.laws h)
  slices := b.slices.trans a.slices
  states f := (b.states f).trans (a.states f)
  suspects f := (b.suspects f).trans (a.suspects f)
  spareQ := b.spareQ.trans a.spareQ
  phase := b.phase.trans a.phase
  generation := b.generation.trans a.generation
  locked := b.locked.trans a.locked

theorem Lasting.refl (s : State) : Lasting s s :=
  ⟨fun _ _ => id, fun _ => id, fun _ => .rfl, id⟩

theorem Lasting.trans {s t u : State} (a : Lasting s t) (b : Lasting t u) : Lasting s u where
  suspect f x h := b.suspect f x (a.suspect f x h)
  retired f h := b.retired f (a.retired f h)
  absent f := (a.absent f).trans (b.absent f)
  locked h := b.locked (a.locked h)

theorem Still.lasting {s t : State} (e : Still s t) : Lasting s t where
  suspect f x h := by rw [e.suspects, h]
  retired f h := by rw [e.states, h]
  absent f := by rw [e.states]
  locked h := by rw [e.locked, h]

theorem Still.attributes {s t : State} (e : Still s t) : KeepsAttributes s t := fun i => by
  rw [slice_congr e.slices]; exact ⟨.rfl, rfl, rfl⟩

theorem KeepsAttributes.trans {s t u : State} (a : KeepsAttributes s t) (b : KeepsAttributes t u) :
    KeepsAttributes s u := fun i =>
  ⟨(b i).1.trans (a i).1, (b i).2.1.trans (a i).2.1, (b i).2.2.trans (a i).2.2⟩

/-- The map changes of R9, one by one. -/
theorem mapChanged_iff (s t : State) : s.mapChanged t = true ↔
    s.spareQ ≠ t.spareQ ∨
    (∃ i, (s.slice i).loc.kind ≠ (t.slice i).loc.kind ∨ (s.slice i).protect ≠ (t.slice i).protect ∨
      (s.slice i).domain ≠ (t.slice i).domain) ∨
    ∃ f, (s.frame f).state ≠ (t.frame f).state ∨
      ((s.frame f).suspect = none ∧ (t.frame f).suspect.isSome = true) := by
  simp [State.mapChanged, or_assoc]

/-- What changes on one side of a still event changes on the other. -/
theorem mapChanged_congr {s s' t t' : State} (a : Still s s') (b : Still t t') :
    s'.mapChanged t' = s.mapChanged t := by
  rw [Bool.eq_iff_iff, mapChanged_iff, mapChanged_iff]
  simp only [slice_congr a.slices, slice_congr b.slices, a.states, b.states, a.suspects, b.suspects,
    a.spareQ, b.spareQ]

theorem mapChanged_self (s : State) : s.mapChanged s = false := by
  rw [Bool.eq_false_iff, ne_eq, mapChanged_iff]
  simp

theorem MapStep.of_still {c : Instr} {s t : State} (h : MapLaws s) (e : Still s t) :
    MapStep c s t where
  laws := e.laws h
  generation _ := by
    rw [mapChanged_congr (Still.refl s) e, mapChanged_self]; simpa using e.generation
  phase hp := absurd e.phase hp
  lasting := e.lasting
  attributes _ _ := e.attributes

theorem MapStep.then_still {c : Instr} {s t u : State} (m : MapStep c s t) (e : Still t u) :
    MapStep c s u where
  laws := e.laws m.laws
  generation hc := by
    rw [mapChanged_congr (Still.refl s) e, e.generation]; exact m.generation hc
  phase hp := by rw [e.phase] at hp ⊢; exact m.phase hp
  lasting := m.lasting.trans e.lasting
  attributes hl hp := (m.attributes hl hp).trans e.attributes

theorem Still.then_step {c : Instr} {s t u : State} (e : Still s t) (m : MapStep c t u) :
    MapStep c s u where
  laws := m.laws
  generation hc := by
    rw [← mapChanged_congr e (Still.refl u), ← e.generation]; exact m.generation hc
  phase hp := by rw [← e.phase] at hp ⊢; exact m.phase hp
  lasting := e.lasting.trans m.lasting
  attributes hl hp := e.attributes.trans (m.attributes (e.locked.trans hl) (e.phase.trans hp))

end Sys2Proof.Machine.MapProofs
end

section
namespace Sys2Proof.Machine.MapProofs
open Sys2Proof Sys2Proof.Machine Sys2Proof.Machine.Laws

/-! ## Operations that leave the map as it is -/

theorem SameMap.refl (s : State) : SameMap s s := by constructor <;> intros <;> rfl

theorem sameMap_raise (s : State) (f : Flag) : SameMap s (s.raise f) := by
  constructor <;> intros <;> rfl

theorem sameMap_countOnly (s : State) (f : FrameNo) (o : ReadOutcome) :
    SameMap s (s.countOnly f o) := by
  have hf : ∀ g, ((s.countOnly f o).frame g).state = (s.frame g).state ∧
      ((s.countOnly f o).frame g).suspect = (s.frame g).suspect := fun g => by
    cases o <;> simp only [State.countOnly, setFrame_frame, and_self] <;> split <;> simp [*]
  rw [countOnly_frame] at hf ⊢
  exact ⟨rfl, fun g => (hf g).1, fun g => (hf g).2, rfl, rfl, rfl, rfl, rfl, rfl, rfl, rfl, rfl, rfl,
    rfl, rfl, rfl⟩

theorem sameMap_request (s : State) (op : ModOp) : SameMap s (s.request op) := by
  constructor <;> intros <;> rfl

theorem sameMap_complete (s : State) (k : Socket) (op : ModOp) : SameMap s (s.complete k op) := by
  rw [complete_frame]; constructor <;> intros <;> rfl

theorem sameMap_setPort (s : State) (i : Initiator) (p : Port) : SameMap s (s.setPort i p) := by
  constructor <;> intros <;> rfl

theorem sameMap_setArb (s : State) (k : Socket) (a : Arbiter) : SameMap s (s.setArb k a) := by
  constructor <;> intros <;> rfl

theorem sameMap_grantClaim (s : State) (o : Owner) (fl : FrameLine) :
    SameMap s (s.grantClaim o fl) := by
  rw [grantClaim_frame]; constructor <;> intros <;> rfl

theorem sameMap_testRequests (s : State) (fl : FrameLine) : SameMap s (s.testRequests fl) := by
  rw [testRequests_frame]; constructor <;> intros <;> rfl

theorem sameMap_checkAndSteer (s : State) (i : Initiator) (t : Txn) :
    SameMap s (s.checkAndSteer i t) := by
  rw [admit_frame]; constructor <;> intros <;> rfl

theorem sameMap_releasePlace (s : State) (o : Owner) : SameMap s (s.releasePlace o) := by
  rw [releasePlace_frame]; constructor <;> intros <;> rfl

theorem sameMap_abandonCopy (s : State) (c : ChanNo) : SameMap s (s.abandonCopy c) := by
  rw [abandonCopy_frame]; constructor <;> intros <;> rfl

theorem sameMap_endScrub (s : State) : SameMap s s.endScrub := by
  rw [endScrub_frame]; constructor <;> intros <;> rfl

theorem sameMap_chooseScrub (s : State) : SameMap s s.chooseScrub := by
  rw [chooseScrub_frame]; constructor <;> intros <;> rfl

theorem sameMap_beginCopy (s : State) (c : ChanNo) : SameMap s (s.beginCopy c) := by
  rw [beginCopy_frame]; constructor <;> intros <;> rfl

theorem sameMap_walkRequest (s : State) (f : FrameNo) (p : TestPass) (l : LineNo) :
    SameMap s (s.walkRequest f p l) := by
  cases p <;> constructor <;> intros <;> rfl

/-! ## What the map operations write -/

@[simp] theorem setFrameState_frame_eq (s : State) (f g : FrameNo) (st : FrameState) :
    (s.setFrameState f st).frame g = if f = g then { s.frame f with state := st } else s.frame g := by
  simp [State.setFrameState]

@[simp] theorem setLoc_slice_eq (s : State) (i j : SliceNo) (l : SliceLoc) :
    (s.setLoc i l).slice j = if i = j then { s.slice i with loc := l } else s.slice j := by
  simp [State.setLoc]

theorem removeSpare_frameRec (s : State) (f g : FrameNo) : (s.removeSpare f).frame g = s.frame g := by
  rw [removeSpare_eq]; rfl

/-- Under the spare law an erased frame leaves the queue exactly if it was SPARE. -/
theorem erase_spareQ {s : State} (h : spareLaw s) (f : FrameNo) :
    (if (s.frame f).state = .spare then s.spareQ.erase f else s.spareQ) = s.spareQ.erase f := by
  split
  · rfl
  · next hf => exact (List.erase_of_not_mem (mt (h.2.1 f).1 hf)).symm

theorem bindSlice_eq (s : State) (i : SliceNo) (f : FrameNo) (p : Bool) (d : DomainSet) :
    s.bindSlice i f p d =
      { s with
        slices := s.slices.set i { loc := .mapped f, protect := p, domain := d }
        frames := s.frames.set f { s.frame f with state := .bound i }
        spareQ := if (s.frame f).state = .spare then s.spareQ.erase f else s.spareQ
        flags := s.flags |||
          if (s.frame f).state = .spare then s.removalFlags (s.spareQ.erase f) else 0
        phase := if s.phase = Phase.staged then Phase.active else s.phase
        generation := s.generation + 1 } := by
  unfold State.bindSlice
  by_cases hf : (s.frame f).state = .spare
  · simp only [hf, if_true, removeSpare_eq]; rfl
  · simp [hf, State.bump, State.setFrameState, State.setSlice, State.setFrame]

theorem slice_set {s t : State} {i : SliceNo} {r : SliceRec} (h : t.slices = s.slices.set i r)
    (j : SliceNo) : t.slice j = if i = j then r else s.slice j := by
  have := setSlice_slice s i j r
  simpa only [State.slice, State.setSlice, h] using this

theorem frame_set {s t : State} {f : FrameNo} {r : FrameRec} (h : t.frames = s.frames.set f r)
    (g : FrameNo) : t.frame g = if f = g then r else s.frame g := by
  have := setFrame_frame s f g r
  simpa only [State.frame, State.setFrame, h] using this

theorem chan_set {s t : State} {c : ChanNo} {r : Channel} (h : t.chans = s.chans.set c r)
    (d : ChanNo) : t.chan d = if c = d then r else s.chan d := by
  have := setChan_chan s c d r
  simpa only [State.chan, State.setChan, h] using this

end Sys2Proof.Machine.MapProofs
end

section
namespace Sys2Proof.Machine.MapProofs
open Sys2Proof Sys2Proof.Machine Sys2Proof.Machine.Laws

/-! ## The laws, each from what it speaks of -/

section
variable {s t : State}

theorem sliceFrame_congr (h : sliceFrameLaw s)
    (hl : ∀ i, (t.slice i).loc.source = (s.slice i).loc.source)
    (hf : ∀ f i, (t.frame f).state = .bound i ↔ (s.frame f).state = .bound i) : sliceFrameLaw t :=
  fun i f => by rw [hl, hf]; exact h i f

theorem sliceChan_congr (h : sliceChanLaw s)
    (hl : ∀ i, (t.slice i).loc.channel = (s.slice i).loc.channel)
    (hc : ∀ c, (t.chan c).state.migration.map (·.slice) = (s.chan c).state.migration.map (·.slice)) :
    sliceChanLaw t := fun i c => by rw [hl, hc]; exact h i c

theorem target_congr (h : targetLaw s)
    (hf : ∀ f, (t.frame f).state = .target ↔ (s.frame f).state = .target)
    (hc : ∀ c, (t.chan c).state.migration.map (·.target) = (s.chan c).state.migration.map (·.target)) :
    targetLaw t := by
  simp only [targetLaw, hf, hc]; exact h

theorem spare_congr (h : spareLaw s) (hq : t.spareQ = s.spareQ)
    (hf : ∀ f, (t.frame f).state = .spare ↔ (s.frame f).state = .spare)
    (hp : t.phase ≠ .active → s.phase ≠ .active) : spareLaw t := by
  obtain ⟨hnd, hm, ho⟩ := h
  exact ⟨hq ▸ hnd, fun f => by rw [hq, hf]; exact hm f, fun hne => hq ▸ ho (hp hne)⟩

theorem waitsUnqueued_iff {f : FrameNo} :
    s.waitsUnqueued f = true ↔ s.suspectBound f ∧ f ∉ s.retireQ := by
  simp [State.waitsUnqueued, State.suspectBound, and_assoc]

/-- R37, R38 by the suspect BOUND frames. -/
theorem retireLaw_iff : retireLaw s ↔
    s.retireQ.Nodup ∧ s.retireQ.length ≤ Config.retireCapacity ∧
      (∀ f ∈ s.retireQ, s.suspectBound f) ∧
      ∀ f, s.suspectBound f → f ∉ s.retireQ → s.retireQ.length = Config.retireCapacity := by
  simp only [retireLaw, waitsUnqueued_iff, and_imp, State.suspectBound]

theorem retire_congr (h : retireLaw s) (hq : t.retireQ = s.retireQ)
    (hb : ∀ f, t.suspectBound f ↔ s.suspectBound f) : retireLaw t := by
  rw [retireLaw_iff] at h ⊢
  simpa only [hq, hb] using h

theorem phase_congr (h : phaseLaw s) (hp : t.phase ≠ .active → s.phase ≠ .active)
    (hl : ∀ i, (s.slice i).loc = .unmapped → t.phase ≠ .active → (t.slice i).loc = .unmapped) :
    phaseLaw t :=
  fun hne i => hl i (h (hp hne) i) hne

theorem chain_congr (h : chainLaw s) (hc : ∀ c, (t.chan c).state = (s.chan c).state)
    (hb : t.broken = s.broken)
    (hl : ∀ i f, (s.slice i).loc.source = some f → (t.slice i).loc.source = some f) :
    chainLaw t := by
  obtain ⟨hr, ha, hbr⟩ := h
  simp only [chainLaw, hc, hb]
  exact ⟨fun c m f hm => ⟨hl _ _ (hr c m f hm).1, (hr c m f hm).2⟩, ha, hbr⟩

theorem poison_congr (h : poisonLaw s) (hp : t.poison = s.poison)
    (hl : ∀ i, (s.slice i).loc ≠ .unmapped → (t.slice i).loc ≠ .unmapped) : poisonLaw t := by
  obtain ⟨hlen, hnd, hm⟩ := h
  exact ⟨hp ▸ hlen, hp ▸ hnd, fun e he => hl _ (hm e (hp ▸ he))⟩

/-- What presence, the walk and the import session speak of is the same. -/
structure SameBringUp (s t : State) : Prop where
  presence : t.presence = s.presence
  powered : t.powered = s.powered
  running : t.walk.running = s.walk.running
  inTest : t.walk.frame = s.walk.frame
  session : t.importS.isSome = s.importS.isSome
  inventory : t.phase = .inventory ↔ s.phase = .inventory
  importing : t.phase = .importing ↔ s.phase = .importing
  absent : ∀ f, (t.frame f).state = .absent ↔ (s.frame f).state = .absent
  untested : ∀ f, (t.frame f).state = .untested ↔ (s.frame f).state = .untested

theorem SameBringUp.presenceLaw (e : SameBringUp s t) (h : presenceLaw s) : presenceLaw t :=
  fun f => by rw [e.absent, e.presence]; exact h f

theorem SameBringUp.walkLaw (e : SameBringUp s t) (h : walkLaw s) : walkLaw t := by
  simpa only [Machine.walkLaw, e.powered, e.running, e.inTest, e.inventory, e.untested] using h

theorem SameBringUp.sessionLaw (e : SameBringUp s t) (h : sessionLaw s) : sessionLaw t := by
  simpa only [Machine.sessionLaw, e.importing, e.session] using h

end

theorem notSuspect {s : State} (h : suspectLaw s) {f : FrameNo}
    (hb : (s.frame f).state.isBound = false) (hr : (s.frame f).state ≠ .retired) :
    (s.frame f).suspect = none := by
  have := (h f).1
  cases hs : (s.frame f).suspect <;> simp_all

/-! ## MAP -/

theorem bindSlice_slice (s : State) (i j : SliceNo) (f : FrameNo) (p : Bool) (d : DomainSet) :
    (s.bindSlice i f p d).slice j =
      if i = j then { loc := .mapped f, protect := p, domain := d } else s.slice j :=
  slice_set (by rw [bindSlice_eq]) j

theorem bindSlice_frame (s : State) (i : SliceNo) (f g : FrameNo) (p : Bool) (d : DomainSet) :
    (s.bindSlice i f p d).frame g =
      if f = g then { s.frame f with state := .bound i } else s.frame g :=
  frame_set (by rw [bindSlice_eq]) g

theorem bindSlice_laws {s : State} {i : SliceNo} {f : FrameNo} {p : Bool} {d : DomainSet}
    (h : MapLaws s) (hi : (s.slice i).loc = .unmapped)
    (hf : (s.frame f).state = .free ∨ (s.frame f).state = .spare)
    (hp : s.phase = .staged ∨ s.phase = .active) : MapLaws (s.bindSlice i f p d) := by
  have e := bindSlice_eq s i f p d
  rw [erase_spareQ h.spare] at e
  have hsl := fun j => bindSlice_slice s i j f p d
  have hfr := fun g => bindSlice_frame s i f g p d
  generalize s.bindSlice i f p d = t at *
  have hq : t.spareQ = s.spareQ.erase f := by rw [e]
  have hr : t.retireQ = s.retireQ := by rw [e]
  have hbr : t.broken = s.broken := by rw [e]
  have hpo : t.poison = s.poison := by rw [e]
  have hch : ∀ c, t.chan c = s.chan c := chan_congr (by rw [e])
  have hph : t.phase = .active := by rcases hp with hp | hp <;> simp [e, hp]
  have hsus : (s.frame f).suspect = none := by
    apply notSuspect h.suspect <;> rcases hf with hf | hf <;> simp [hf, FrameState.isBound]
  have hst : ∀ g, ((t.frame g).state = .absent ↔ (s.frame g).state = .absent) ∧
      ((t.frame g).state = .untested ↔ (s.frame g).state = .untested) := by grind
  have hb : SameBringUp s t := ⟨by rw [e], by rw [e], by rw [e], by rw [e], by rw [e],
    by rcases hp with hp | hp <;> simp [hph, hp], by rcases hp with hp | hp <;> simp [hph, hp],
    fun g => (hst g).1, fun g => (hst g).2⟩
  clear e
  constructor
  · intro j g
    have := h.sliceFrame i f
    have := h.sliceFrame j g
    grind [SliceLoc.source]
  · exact sliceChan_congr h.sliceChan (by grind [SliceLoc.channel]) (by simp [hch])
  · exact target_congr h.target (by grind) (by simp [hch])
  · obtain ⟨hnd, hm, -⟩ := h.spare
    exact ⟨hq ▸ hnd.erase f, by grind [List.Nodup.mem_erase_iff], absurd hph⟩
  · exact retire_congr h.retire hr (by grind [FrameState.isBound])
  · have := h.suspect; grind [FrameState.isBound]
  · exact phase_congr h.phase (absurd hph) (fun _ _ => absurd hph)
  · exact chain_congr h.chain (by simp [hch]) hbr (by grind [SliceLoc.source])
  · exact poison_congr h.poison hpo (by grind)
  · exact hb.presenceLaw h.presence
  · exact hb.walkLaw h.walk
  · exact hb.sessionLaw h.session
end Sys2Proof.Machine.MapProofs
end

section
namespace Sys2Proof.Machine.MapProofs
open Sys2Proof Sys2Proof.Machine Sys2Proof.Machine.Laws

/-! ## UNMAP and the release of a frame -/

theorem bumpIf_eq (s : State) (b : Bool) :
    s.bumpIf b = { s with generation := s.generation + if b then 1 else 0 } := by
  cases b <;> simp [State.bumpIf, State.bump]

theorem releaseFrame_eq (s : State) (f : FrameNo) :
    s.releaseFrame f =
      { s with
        frames := s.frames.set f { s.frame f with
          state := if (s.frame f).suspect.isSome then .retired else .free }
        retireQ := if (s.frame f).suspect.isSome then s.retireQWithout f else s.retireQ
        flags := if (s.frame f).suspect.isSome then s.flags ||| Flag.frameRetired.mask
          else s.flags } := by
  cases hs : (s.frame f).suspect with
  | none => simp [releaseFrame_clean s f hs, hs]
  | some c => simp [releaseFrame_suspect s f c hs, hs]

theorem unbindSlice_eq (s : State) (i : SliceNo) (f : FrameNo) :
    s.unbindSlice i f =
      { s with
        slices := s.slices.set i { s.slice i with loc := .unmapped }
        frames := s.frames.set f { s.frame f with
          state := if (s.frame f).suspect.isSome then .retired else .free }
        retireQ := if (s.frame f).suspect.isSome then s.retireQWithout f else s.retireQ
        flags := if (s.frame f).suspect.isSome then s.flags ||| Flag.frameRetired.mask
          else s.flags
        poison := s.poison.filter fun e => e.1 != i
        generation := s.generation + 1 } := by
  unfold State.unbindSlice
  simp only [releaseFrame_eq]
  rfl

theorem unbindSlice_slice (s : State) (i j : SliceNo) (f : FrameNo) :
    (s.unbindSlice i f).slice j = if i = j then { s.slice i with loc := .unmapped } else s.slice j :=
  slice_set (by rw [unbindSlice_eq]) j

theorem unbindSlice_frame (s : State) (i : SliceNo) (f g : FrameNo) :
    (s.unbindSlice i f).frame g =
      if f = g then
        { s.frame f with state := if (s.frame f).suspect.isSome then .retired else .free }
      else s.frame g :=
  frame_set (by rw [unbindSlice_eq]) g

/-- A frame not suspect or not BOUND is not in the retire queue. -/
theorem retireQWithout_of_not {s : State} (h : retireLaw s) {f : FrameNo} (hf : ¬s.suspectBound f) :
    s.retireQWithout f = s.retireQ :=
  if_neg fun hm => hf ((retireLaw_iff.1 h).2.2.1 f hm)

/-- R37, R38: once a frame is BOUND no more the queue without it, refilled, is lawful. -/
theorem retire_without {s t : State} (h : retireLaw s) {f : FrameNo}
    (hq : t.retireQ = s.retireQWithout f)
    (hb : ∀ g, t.suspectBound g ↔ g ≠ f ∧ s.suspectBound g) : retireLaw t := by
  rw [retireLaw_iff] at h ⊢
  obtain ⟨hnd, hlen, hm, hout⟩ := h
  simp only [hq, hb]
  unfold State.retireQWithout
  by_cases hf : f ∈ s.retireQ
  · rw [if_pos hf]
    have hlf := List.length_erase_of_mem hf
    have hpos := List.length_pos_of_mem hf
    cases hg : (List.finRange 64).find? fun g =>
        decide (g ≠ f ∧ s.suspectBound g ∧ g ∉ s.retireQ) with
    | none =>
      have hno : ∀ g, g ≠ f → s.suspectBound g → g ∈ s.retireQ := by simpa using hg
      simp only [Option.toList_none, List.append_nil]
      refine ⟨hnd.erase f, by omega, fun g hgm => ?_, fun g hgb hgn => ?_⟩
      · have := hnd.mem_erase_iff.1 hgm
        exact ⟨this.1, hm g this.2⟩
      · exact absurd (hnd.mem_erase_iff.2 ⟨hgb.1, hno g hgb.1 hgb.2⟩) hgn
    | some g =>
      obtain ⟨hgf, hgb, hgn⟩ : g ≠ f ∧ s.suspectBound g ∧ g ∉ s.retireQ := by
        simpa using List.find?_some hg
      have hfull := hout g hgb hgn
      have hl : (s.retireQ.erase f ++ [g]).length = Config.retireCapacity := by simp; omega
      simp only [Option.toList_some]
      refine ⟨?_, hl.le, fun k hk => ?_, fun _ _ _ => hl⟩
      · exact List.nodup_append.2 ⟨hnd.erase f, by simp, by
          intro a ha b hb; simp at hb; rintro rfl; subst hb; exact hgn (List.mem_of_mem_erase ha)⟩
      · rcases List.mem_append.1 hk with hk | hk
        · have := hnd.mem_erase_iff.1 hk
          exact ⟨this.1, hm k this.2⟩
        · rw [List.mem_singleton.1 hk]; exact ⟨hgf, hgb⟩
  · rw [if_neg hf]
    exact ⟨hnd, hlen, fun g hg => ⟨fun e => hf (e ▸ hg), hm g hg⟩, fun g hgb => hout g hgb.2⟩

theorem unbindSlice_laws {s : State} {i : SliceNo} {f : FrameNo} (h : MapLaws s)
    (hi : (s.slice i).loc = .mapped f) : MapLaws (s.unbindSlice i f) := by
  have hf : (s.frame f).state = .bound i := (h.sliceFrame i f).1 (by rw [hi]; rfl)
  have e := unbindSlice_eq s i f
  have hsl := fun j => unbindSlice_slice s i j f
  have hfr := fun g => unbindSlice_frame s i f g
  generalize s.unbindSlice i f = t at *
  have hq : t.spareQ = s.spareQ := by rw [e]
  have hr : t.retireQ = s.retireQWithout f := by
    rw [e]; dsimp only; split
    · rfl
    · next hs => exact (retireQWithout_of_not h.retire (fun hb => hs hb.2)).symm
  have hpo : t.poison = s.poison.filter fun e => e.1 != i := by rw [e]
  have hch : ∀ c, t.chan c = s.chan c := chan_congr (by rw [e])
  have hph : t.phase = s.phase := by rw [e]
  have hbr : t.broken = s.broken := by rw [e]
  have hst : ∀ g, ((t.frame g).state = .absent ↔ (s.frame g).state = .absent) ∧
      ((t.frame g).state = .untested ↔ (s.frame g).state = .untested) := by grind
  have hb : SameBringUp s t := ⟨by rw [e], by rw [e], by rw [e], by rw [e], by rw [e],
    by rw [hph], by rw [hph], fun g => (hst g).1, fun g => (hst g).2⟩
  clear e hst
  constructor
  · intro j g
    have := h.sliceFrame i g
    have := h.sliceFrame j g
    have := h.sliceFrame j f
    grind [SliceLoc.source]
  · exact sliceChan_congr h.sliceChan (by grind [SliceLoc.channel]) (by simp [hch])
  · exact target_congr h.target (by grind) (by simp [hch])
  · exact spare_congr h.spare hq (by grind) (by simp [hph])
  · exact retire_without h.retire hr (by grind [FrameState.isBound])
  · have := h.suspect; grind [FrameState.isBound]
  · exact phase_congr h.phase (by simp [hph]) (by grind)
  · refine ⟨fun c m g hm => ?_, ?_⟩
    · have := h.chain.1 c m g (by rw [← hch]; exact hm)
      have := (h.sliceChan m.slice c).2 (by rw [← hch, hm]; rfl)
      grind [SliceLoc.channel]
    · simpa only [hch, hbr] using h.chain.2
  · obtain ⟨hlen, hnd, hm⟩ := h.poison
    rw [poisonLaw, hpo]
    refine ⟨(List.length_filter_le _ _).trans hlen, hnd.filter _, fun e he => ?_⟩
    have := List.mem_filter.1 he
    have := hm e this.1
    grind
  · exact hb.presenceLaw h.presence
  · exact hb.walkLaw h.walk
  · exact hb.sessionLaw h.session
end Sys2Proof.Machine.MapProofs
end

section
namespace Sys2Proof.Machine.MapProofs
open Sys2Proof Sys2Proof.Machine Sys2Proof.Machine.Laws

/-! ## SET_ATTR -/

/-- Attributes are none of the laws' business. -/
theorem setAttr_laws {s : State} (h : MapLaws s) (i : SliceNo) (p : Bool) (d : DomainSet) :
    MapLaws (s.setSlice i { s.slice i with protect := p, domain := d }) := by
  have hl : ∀ j, ((s.setSlice i { s.slice i with protect := p, domain := d }).slice j).loc =
      (s.slice j).loc := fun j => by rw [setSlice_slice]; split <;> simp [*]
  have hb : SameBringUp s (s.setSlice i { s.slice i with protect := p, domain := d }) :=
    ⟨rfl, rfl, rfl, rfl, rfl, .rfl, .rfl, fun _ => .rfl, fun _ => .rfl⟩
  exact
    { sliceFrame := sliceFrame_congr h.sliceFrame (fun j => by rw [hl]) (fun _ _ => .rfl)
      sliceChan := sliceChan_congr h.sliceChan (fun j => by rw [hl]) (fun _ => rfl)
      target := h.target
      spare := h.spare
      retire := h.retire
      suspect := h.suspect
      phase := phase_congr h.phase id (fun i hi _ => by rw [hl, hi])
      chain := chain_congr h.chain (fun _ => rfl) rfl (fun j _ => by rw [hl]; exact id)
      poison := poison_congr h.poison rfl (fun j => by rw [hl]; exact id)
      presence := hb.presenceLaw h.presence
      walk := hb.walkLaw h.walk
      session := hb.sessionLaw h.session }

/-! ## Suspect marking -/

/-- A marking of a frame in use (R27 to R30). -/
theorem markSuspect_eq (s : State) (f : FrameNo) (c : Cause)
    (hf : (s.frame f).state.inUse = true) :
    s.markSuspect f c =
      { s with
        frames := s.frames.set f { s.frame f with
          state := if (s.frame f).state.isBound then (s.frame f).state else .retired
          suspect := some c }
        spareQ := if (s.frame f).state = .spare then s.spareQ.erase f else s.spareQ
        retireQ := if (s.frame f).state.isBound = true ∧ s.retireQ.length < 8 then s.retireQ ++ [f]
          else s.retireQ
        flags := (s.markSuspect f c).flags } := by
  cases hs : (s.frame f).state with
  | free => rw [markSuspect_free s f c hs]; simp [FrameState.isBound]
  | spare => rw [markSuspect_spare s f c hs]; simp [FrameState.isBound]
  | bound i => rw [markSuspect_bound s f c i hs]; simp [FrameState.isBound, hs]
  | _ => rw [hs] at hf; cases hf

theorem markSuspect_frameRec (s : State) (f g : FrameNo) (c : Cause)
    (hf : (s.frame f).state.inUse = true) :
    (s.markSuspect f c).frame g =
      if f = g then { s.frame f with
          state := if (s.frame f).state.isBound then (s.frame f).state else .retired
          suspect := some c }
      else s.frame g :=
  frame_set (by rw [markSuspect_eq s f c hf]) g

theorem markSuspect_laws {s : State} {f : FrameNo} {c : Cause} (h : MapLaws s)
    (hf : (s.frame f).state.inUse = true) (hs : (s.frame f).suspect = none) :
    MapLaws (s.markSuspect f c) := by
  have e := markSuspect_eq s f c hf
  rw [erase_spareQ h.spare] at e
  have hfr := fun g => markSuspect_frameRec s f g c hf
  generalize s.markSuspect f c = t at *
  have hq : t.spareQ = s.spareQ.erase f := by rw [e]
  have hr : t.retireQ = if (s.frame f).state.isBound = true ∧ s.retireQ.length < 8
    then s.retireQ ++ [f] else s.retireQ := by rw [e]
  have hch : ∀ c, t.chan c = s.chan c := chan_congr (by rw [e])
  have hsl : ∀ j, t.slice j = s.slice j := slice_congr (by rw [e])
  have hph : t.phase = s.phase := by rw [e]
  have hbr : t.broken = s.broken := by rw [e]
  have hpo : t.poison = s.poison := by rw [e]
  have hst : ∀ g, ((t.frame g).state = .absent ↔ (s.frame g).state = .absent) ∧
      ((t.frame g).state = .untested ↔ (s.frame g).state = .untested) ∧
      ((t.frame g).state = .target ↔ (s.frame g).state = .target) ∧
      ∀ i, ((t.frame g).state = .bound i ↔ (s.frame g).state = .bound i) := by
    cases h' : (s.frame f).state <;> grind [FrameState.isBound, FrameState.inUse]
  have hb : SameBringUp s t := ⟨by rw [e], by rw [e], by rw [e], by rw [e], by rw [e],
    by rw [hph], by rw [hph], fun g => (hst g).1, fun g => (hst g).2.1⟩
  clear e
  constructor
  · exact sliceFrame_congr h.sliceFrame (by simp [hsl]) (fun f i => (hst f).2.2.2 i)
  · exact sliceChan_congr h.sliceChan (by simp [hsl]) (by simp [hch])
  · exact target_congr h.target (fun g => (hst g).2.2.1) (by simp [hch])
  · obtain ⟨hnd, hm, ho⟩ := h.spare
    refine ⟨hq ▸ hnd.erase f, ?_, fun hp => ?_⟩
    · grind [List.Nodup.mem_erase_iff, FrameState.isBound]
    · rw [hq, ho (hph ▸ hp)]; rfl
  · have hl := retireLaw_iff.1 h.retire
    rw [retireLaw_iff]
    have hnf : f ∉ s.retireQ := fun hm => by have := (hl.2.2.1 f hm).2; simp [hs] at this
    grind [FrameState.isBound, Config.retireCapacity]
  · have := h.suspect; grind [FrameState.isBound]
  · exact phase_congr h.phase (by simp [hph]) (by grind)
  · exact chain_congr h.chain (by simp [hch]) hbr (by grind)
  · exact poison_congr h.poison hpo (by grind)
  · exact hb.presenceLaw h.presence
  · exact hb.walkLaw h.walk
  · exact hb.sessionLaw h.session

/-! ## The spare queue by command -/

/-- One frame goes over between FREE and SPARE, in ACTIVE (R41, R42). -/
theorem spareSwap_laws {s t : State} {f : FrameNo} {st : FrameState} {q : List FrameNo}
    (h : MapLaws s) (hf : (s.frame f).state = .free ∧ st = .spare ∨
      (s.frame f).state = .spare ∧ st = .free) (hp : s.phase = .active)
    (hnd : q.Nodup) (hm : ∀ g, g ∈ q ↔ (g = f ∧ st = .spare) ∨ (g ≠ f ∧ g ∈ s.spareQ))
    (e : SameMap { s.setFrameState f st with spareQ := q } t) : MapLaws t := by
  refine e.laws ?_
  have hfr : ∀ g, ({ s.setFrameState f st with spareQ := q } : State).frame g = _ :=
    fun g => setFrameState_frame_eq s f g st
  have hs : (s.frame f).suspect = none := by
    apply notSuspect h.suspect <;> rcases hf with ⟨hf, -⟩ | ⟨hf, -⟩ <;> simp [hf, FrameState.isBound]
  have hst : ∀ g, ((s.setFrameState f st).frame g).state = (s.frame g).state ∨
      g = f ∧ ((s.setFrameState f st).frame g).state = st := fun g => by
    rw [setFrameState_frame_eq]; split <;> simp_all
  have hb : SameBringUp s { s.setFrameState f st with spareQ := q } :=
    ⟨rfl, rfl, rfl, rfl, rfl, .rfl, .rfl, by grind, by grind⟩
  constructor
  · exact sliceFrame_congr h.sliceFrame (fun _ => rfl) (by grind)
  · exact h.sliceChan
  · exact target_congr h.target (by grind) (fun _ => rfl)
  · refine ⟨hnd, fun g => ?_, absurd hp⟩
    have := h.spare.2.1 g
    have := hm g
    grind
  · exact retire_congr h.retire rfl (by grind [FrameState.isBound])
  · have := h.suspect; grind [FrameState.isBound]
  · exact h.phase
  · exact h.chain
  · exact h.poison
  · exact hb.presenceLaw h.presence
  · exact hb.walkLaw h.walk
  · exact hb.sessionLaw h.session

theorem joinSpare_laws {s : State} {f : FrameNo} (h : MapLaws s) (hf : (s.frame f).state = .free)
    (hp : s.phase = .active) : MapLaws (s.joinSpare f) := by
  have hn : f ∉ s.spareQ := fun hm => by have := (h.spare.2.1 f).1 hm; simp [hf] at this
  exact spareSwap_laws (q := s.spareQ ++ [f]) h (.inl ⟨hf, rfl⟩) hp
    (List.nodup_append.2 ⟨h.spare.1, by simp, by grind⟩) (by grind) (SameMap.refl _)

theorem withdrawSpare_laws {s : State} {f : FrameNo} (h : MapLaws s)
    (hf : (s.frame f).state = .spare) (hp : s.phase = .active) :
    MapLaws ((s.removeSpare f).setFrameState f .free) := by
  refine spareSwap_laws (q := s.spareQ.erase f) h (.inr ⟨hf, rfl⟩) hp (h.spare.1.erase f)
    (fun g => by simp [h.spare.1.mem_erase_iff]) ?_
  rw [removeSpare_eq]
  constructor <;> intros <;> rfl

/-! ## The poison list -/

theorem addPoison_still {s : State} {i : SliceNo} (l : LineNo) (hi : (s.slice i).loc ≠ .unmapped) :
    Still s (s.addPoison i l) := by
  have hp : poisonLaw s → poisonLaw (s.addPoison i l) := fun ⟨hlen, hnd, hm⟩ => by
    unfold State.addPoison State.poisonResult
    by_cases hc : (i, l) ∈ s.poison
    · simpa [hc] using ⟨hlen, hnd, hm⟩
    · by_cases hl : s.poison.length < Config.poisonCapacity
      · simp only [List.contains_eq_mem, hc, decide_false, Bool.false_eq_true, if_false, hl, if_true]
        refine ⟨by simpa using hl, List.nodup_append.2 ⟨hnd, by simp, by grind⟩, fun e he => ?_⟩
        rcases List.mem_append.1 he with he | he
        · exact hm e he
        · rw [List.mem_singleton.1 he]; exact hi
      · simpa [hc, hl] using ⟨hlen, hnd, hm⟩
  rw [addPoison_frame] at hp ⊢
  exact ⟨fun h => { h with poison := hp h.poison }, rfl, fun _ => rfl, fun _ => rfl, rfl, rfl, rfl, rfl⟩

theorem dropPoison_still (s : State) (i : SliceNo) (l : LineNo) : Still s (s.dropPoison i l) :=
  ⟨fun h => { h with
      poison := ⟨(List.length_erase_le).trans h.poison.1, h.poison.2.1.erase _,
        fun e he => h.poison.2.2 e (List.mem_of_mem_erase he)⟩ },
    rfl, fun _ => rfl, fun _ => rfl, rfl, rfl, rfl, rfl⟩

end Sys2Proof.Machine.MapProofs
end

section
namespace Sys2Proof.Machine.MapProofs
open Sys2Proof Sys2Proof.Machine Sys2Proof.Machine.Laws

/-! ## Channels under the laws -/

/-- The slice of a channel's migration is MIGRATING on it, from a frame BOUND to the slice. -/
theorem migrating_of {s : State} (h : MapLaws s) {c : ChanNo} {m : Migration}
    (hm : (s.chan c).state.migration = some m) :
    ∃ f, (s.slice m.slice).loc = .migrating f c ∧ (s.frame f).state = .bound m.slice := by
  have hc : (s.slice m.slice).loc.channel = some c := (h.sliceChan _ _).2 (by rw [hm]; rfl)
  cases hl : (s.slice m.slice).loc with
  | migrating f d =>
    rw [hl] at hc
    obtain rfl : d = c := by simpa [SliceLoc.channel] using hc
    exact ⟨f, rfl, (h.sliceFrame _ _).1 (by rw [hl]; rfl)⟩
  | _ => rw [hl] at hc; cases hc

theorem target_of {s : State} (h : MapLaws s) {c : ChanNo} {m : Migration}
    (hm : (s.chan c).state.migration = some m) : (s.frame m.target).state = .target :=
  (h.target.1 _).2 ⟨c, by rw [hm]; rfl⟩

theorem active_of_migration {s : State} (h : MapLaws s) {c : ChanNo} {m : Migration}
    (hm : (s.chan c).state.migration = some m) : s.phase = .active := by
  obtain ⟨f, hl, -⟩ := migrating_of h hm
  by_contra hp
  rw [h.phase hp] at hl
  cases hl

/-- Two channels' migrations have different slices and different targets. -/
theorem migrations_apart {s : State} (h : MapLaws s) {c d : ChanNo} {m n : Migration}
    (hm : (s.chan c).state.migration = some m) (hn : (s.chan d).state.migration = some n)
    (hcd : c ≠ d) : m.slice ≠ n.slice ∧ m.target ≠ n.target := by
  refine ⟨fun e => ?_, fun e => hcd (h.target.2 c d m.target (by rw [hm]; rfl) (by rw [hn, e]; rfl))⟩
  have hc : (s.slice m.slice).loc.channel = some c := (h.sliceChan _ _).2 (by rw [hm]; rfl)
  have hd : (s.slice n.slice).loc.channel = some d := (h.sliceChan _ _).2 (by rw [hn]; rfl)
  rw [e, hd] at hc
  exact hcd (Option.some.inj hc).symm

theorem migration_none {x : ChanState} : x.migration = none ↔ x = .idle := by
  cases x <;> simp [ChanState.migration]

theorem idle_of_empty {s : State} (h : MapLaws s) (hu : ∀ i, (s.slice i).loc = .unmapped)
    (c : ChanNo) : (s.chan c).state = .idle := by
  rw [← migration_none]
  cases hm : (s.chan c).state.migration with
  | none => rfl
  | some m => obtain ⟨f, hl, -⟩ := migrating_of h hm; rw [hu] at hl; cases hl

/-! ## A channel takes up a migration, or ends it -/

section
variable {s t : State} {c : ChanNo} {m : Migration}

theorem sliceChan_add (h : sliceChanLaw s) (hc : (s.chan c).state.migration = none)
    (hmig : ∀ d, (t.chan d).state.migration = if c = d then some m else (s.chan d).state.migration)
    (hfree : (s.slice m.slice).loc.channel = none)
    (hself : (t.slice m.slice).loc.channel = some c)
    (hother : ∀ k, k ≠ m.slice → (t.slice k).loc.channel = (s.slice k).loc.channel) :
    sliceChanLaw t := by
  intro k d
  have hk := h k d
  rw [hmig]
  by_cases hmk : m.slice = k
  · subst hmk
    rw [hself]
    by_cases hd : c = d
    · simp [hd]
    · simpa [hd, hfree] using hk
  · rw [hother k (Ne.symm hmk), hk]
    by_cases hd : c = d
    · subst hd; simp [hc, hmk]
    · rw [if_neg hd]

theorem sliceChan_remove (h : sliceChanLaw s) (hc : (s.chan c).state.migration = some m)
    (hmig : ∀ d, (t.chan d).state.migration = if c = d then none else (s.chan d).state.migration)
    (hself : (t.slice m.slice).loc.channel = none)
    (hother : ∀ k, k ≠ m.slice → (t.slice k).loc.channel = (s.slice k).loc.channel) :
    sliceChanLaw t := by
  intro k d
  have hk := h k d
  rw [hmig]
  by_cases hmk : m.slice = k
  · subst hmk
    have hm : (s.slice m.slice).loc.channel = some c := (h _ _).2 (by rw [hc]; rfl)
    rw [hself]
    by_cases hd : c = d
    · simp [hd]
    · simpa [hd, hm] using hk
  · rw [hother k (Ne.symm hmk), hk]
    by_cases hd : c = d
    · subst hd; simp [hc, hmk]
    · rw [if_neg hd]

theorem target_add (h : targetLaw s) (hc : (s.chan c).state.migration = none)
    (hmig : ∀ d, (t.chan d).state.migration = if c = d then some m else (s.chan d).state.migration)
    (hfree : (s.frame m.target).state ≠ .target) (hself : (t.frame m.target).state = .target)
    (hother : ∀ g, g ≠ m.target → ((t.frame g).state = .target ↔ (s.frame g).state = .target)) :
    targetLaw t := by
  have hnone (d : ChanNo) : (s.chan d).state.migration.map (·.target) ≠ some m.target :=
    fun hd => hfree ((h.1 _).2 ⟨d, hd⟩)
  simp only [targetLaw, hmig]
  refine ⟨fun g => ?_, fun d d' g hd hd' => ?_⟩
  · by_cases hg : m.target = g
    · subst hg
      exact iff_of_true hself ⟨c, by simp⟩
    · rw [hother g (Ne.symm hg), h.1 g]
      refine exists_congr fun d => ?_
      by_cases hd : c = d
      · subst hd; simp [hc, hg]
      · rw [if_neg hd]
  · by_cases hcd : c = d <;> by_cases hcd' : c = d'
    · exact hcd.symm.trans hcd'
    · rw [if_pos hcd] at hd; rw [if_neg hcd'] at hd'
      obtain rfl : m.target = g := by simpa using hd
      exact absurd hd' (hnone d')
    · rw [if_neg hcd] at hd; rw [if_pos hcd'] at hd'
      obtain rfl : m.target = g := by simpa using hd'
      exact absurd hd (hnone d)
    · rw [if_neg hcd] at hd; rw [if_neg hcd'] at hd'
      exact h.2 d d' g hd hd'

theorem target_remove (h : targetLaw s) (hc : (s.chan c).state.migration = some m)
    (hmig : ∀ d, (t.chan d).state.migration = if c = d then none else (s.chan d).state.migration)
    (hself : (t.frame m.target).state ≠ .target)
    (hother : ∀ g, g ≠ m.target → ((t.frame g).state = .target ↔ (s.frame g).state = .target)) :
    targetLaw t := by
  simp only [targetLaw, hmig]
  refine ⟨fun g => ?_, fun d d' g hd hd' => ?_⟩
  · by_cases hg : m.target = g
    · subst hg
      refine iff_of_false hself ?_
      rintro ⟨d, hd⟩
      split at hd
      · cases hd
      · next hcd => exact hcd (h.2 c d _ (by rw [hc]; rfl) hd)
    · rw [hother g (Ne.symm hg), h.1 g]
      refine exists_congr fun d => ?_
      by_cases hd : c = d
      · subst hd; simp [hc, hg]
      · rw [if_neg hd]
  · split at hd
    · cases hd
    · split at hd'
      · cases hd'
      · exact h.2 d d' g hd hd'

end

/-! ## Start of a migration -/

/-- The fields of a migration that starts (R52, R72). -/
def newMigration (i : SliceNo) (g : FrameNo) (o : Origin) (j : Option ChanNo) (b : InitiatedBy) :
    Migration :=
  { slice := i, target := g, origin := o, after := j, by_ := b, cursor := 0, poisoned := 0 }

/-- ARMED behind another channel, or RUNNING at once (R54). -/
def newState (m : Migration) (f : FrameNo) : ChanState :=
  if m.after.isSome then ChanState.armed m else ChanState.running m f

theorem newState_migration (m : Migration) (f : FrameNo) : (newState m f).migration = some m := by
  unfold newState; split <;> rfl

theorem setUpMigration_eq (s : State) (i : SliceNo) (f g : FrameNo) (c : ChanNo) (j : Option ChanNo)
    (b : InitiatedBy) :
    s.setUpMigration i f g c j b =
      { s with
        slices := s.slices.set i { s.slice i with loc := .migrating f c }
        frames := s.frames.set g { s.frame g with state := .target }
        spareQ := if (s.frame g).state = .spare then s.spareQ.erase g else s.spareQ
        chans := s.chans.set c { s.chan c with
          state := newState (newMigration i g (s.originOf g) j b) f }
        flags := (s.setUpMigration i f g c j b).flags
        generation := s.generation + 1 } := by
  unfold State.setUpMigration State.takeTarget
  by_cases hg : (s.frame g).state = .spare
  · simp only [hg, if_true, removeSpare_eq]; rfl
  · simp only [hg, if_false]; rfl

/-- The conditions under which a migration starts (R50, R72). -/
structure MayMigrate (s : State) (i : SliceNo) (f g : FrameNo) (c : ChanNo) (j : Option ChanNo) :
    Prop where
  mapped : (s.slice i).loc = .mapped f
  target : (s.frame g).state = .free ∨ (s.frame g).state = .spare
  idle : (s.chan c).state = .idle
  after : ∀ d, j = some d → d ≠ c ∧ (s.chan d).state ≠ .idle

section
variable (s : State) (i : SliceNo) (f g : FrameNo) (c : ChanNo) (j : Option ChanNo) (b : InitiatedBy)

theorem setUpMigration_slice (k : SliceNo) : (s.setUpMigration i f g c j b).slice k =
    if i = k then { s.slice i with loc := .migrating f c } else s.slice k :=
  slice_set (by rw [setUpMigration_eq]) k

theorem setUpMigration_frameRec (k : FrameNo) : (s.setUpMigration i f g c j b).frame k =
    if g = k then { s.frame g with state := .target } else s.frame k :=
  frame_set (by rw [setUpMigration_eq]) k

end

/-- R53, R54: a channel that starts is RUNNING from its slice's source, or ARMED behind a channel that
is not IDLE. -/
theorem chain_setUp {s t : State} {c : ChanNo} {m : Migration} {f : FrameNo} (h : chainLaw s)
    (hidle : (s.chan c).state = .idle)
    (hch : ∀ d, t.chan d = if c = d then { s.chan c with state := newState m f } else s.chan d)
    (hsrc : ∀ k, (t.slice k).loc.source = (s.slice k).loc.source) (hbr : t.broken = s.broken)
    (hf : (s.slice m.slice).loc.source = some f) (hcur : m.cursor = 0)
    (hafter : ∀ j, m.after = some j → j ≠ c ∧ (s.chan j).state ≠ .idle) : chainLaw t := by
  obtain ⟨hrun, harm, hnd, hbrk⟩ := h
  have hself : (t.chan c).state = newState m f := by rw [hch, if_pos rfl]
  have hother {d : ChanNo} (hd : c ≠ d) : t.chan d = s.chan d := by rw [hch, if_neg hd]
  have hbusy {j : ChanNo} (hj : (s.chan j).state ≠ .idle) : (t.chan j).state ≠ .idle := by
    rw [hother (by rintro rfl; exact hj hidle)]; exact hj
  refine ⟨fun d n k hd => ?_, fun d n hd => ?_, hbr ▸ hnd, fun d hd => ?_⟩
  · rw [hsrc]
    by_cases hcd : c = d
    · subst hcd
      rw [hself, newState] at hd
      split at hd
      · cases hd
      · cases hd; exact ⟨hf, by simp [hcur]⟩
    · rw [hother hcd] at hd; exact hrun d n k hd
  · by_cases hcd : c = d
    · subst hcd
      rw [hself, newState] at hd
      split at hd
      · next ha =>
        cases hd
        obtain ⟨j, hj⟩ := Option.isSome_iff_exists.1 ha
        exact ⟨hcur, j, hj, (hafter j hj).1, fun _ => hbusy (hafter j hj).2⟩
      · cases hd
    · rw [hother hcd] at hd
      obtain ⟨h0, j, ha, hne, hni⟩ := harm d n hd
      exact ⟨h0, j, ha, hne, fun hb => hbusy (hni (hbr ▸ hb))⟩
  · obtain ⟨n, hn⟩ := hbrk d (hbr ▸ hd)
    exact ⟨n, by rw [hother (by rintro rfl; rw [hidle] at hn; cases hn)]; exact hn⟩

theorem setUpMigration_laws {s : State} {i : SliceNo} {f g : FrameNo} {c : ChanNo}
    {j : Option ChanNo} {b : InitiatedBy} (h : MapLaws s) (hm : MayMigrate s i f g c j) :
    MapLaws (s.setUpMigration i f g c j b) := by
  have e := setUpMigration_eq s i f g c j b
  rw [erase_spareQ h.spare] at e
  have hsl := fun k => setUpMigration_slice s i f g c j b k
  have hfr := fun k => setUpMigration_frameRec s i f g c j b k
  generalize s.setUpMigration i f g c j b = t at *
  have hq : t.spareQ = s.spareQ.erase g := by rw [e]
  have hr : t.retireQ = s.retireQ := by rw [e]
  obtain ⟨m, hmi, hmt, hmj, hcur, hch⟩ : ∃ m : Migration, m.slice = i ∧ m.target = g ∧
      m.after = j ∧ m.cursor = 0 ∧ ∀ d, t.chan d = if c = d then
        { s.chan c with state := newState m f } else s.chan d :=
    ⟨_, rfl, rfl, rfl, rfl, chan_set (by rw [e])⟩
  have hph : t.phase = s.phase := by rw [e]
  have hact : s.phase = .active := by
    by_contra hp; have := h.phase hp i; rw [hm.mapped] at this; cases this
  have hbr : t.broken = s.broken := by rw [e]
  have hpo : t.poison = s.poison := by rw [e]
  obtain ⟨hmap, htgt, hidle, hafter⟩ := hm
  have hsus : (s.frame g).suspect = none := by
    apply notSuspect h.suspect <;> rcases htgt with htgt | htgt <;> simp [htgt, FrameState.isBound]
  have hst : ∀ k, ((t.frame k).state = .absent ↔ (s.frame k).state = .absent) ∧
      ((t.frame k).state = .untested ↔ (s.frame k).state = .untested) ∧
      ∀ i, ((t.frame k).state = .bound i ↔ (s.frame k).state = .bound i) := by grind
  have hb : SameBringUp s t := ⟨by rw [e], by rw [e], by rw [e], by rw [e], by rw [e],
    by rw [hph], by rw [hph], fun g => (hst g).1, fun g => (hst g).2.1⟩
  have hnone : (s.chan c).state.migration = none := migration_none.2 hidle
  have hmig : ∀ d, (t.chan d).state.migration =
      if c = d then some m else (s.chan d).state.migration := by
    intro d; rw [hch]; split
    · exact newState_migration m f
    · rfl
  clear e
  constructor
  · exact sliceFrame_congr h.sliceFrame (by grind [SliceLoc.source]) (fun f i => (hst f).2.2 i)
  · exact sliceChan_add h.sliceChan hnone hmig (by rw [hmi, hmap]; rfl) (by grind [SliceLoc.channel])
      (by grind)
  · exact target_add h.target hnone hmig (by grind) (by grind) (by grind)
  · obtain ⟨hnd, hmem, -⟩ := h.spare
    exact ⟨hq ▸ hnd.erase g, by grind [List.Nodup.mem_erase_iff], fun hp => absurd (hph ▸ hact) hp⟩
  · exact retire_congr h.retire hr (by grind [FrameState.isBound])
  · have := h.suspect; grind [FrameState.isBound]
  · exact phase_congr h.phase (by simp [hph]) (fun _ _ hp => absurd (hph ▸ hact) hp)
  · exact chain_setUp h.chain hidle hch (by grind [SliceLoc.source]) hbr (by rw [hmi, hmap]; rfl) hcur
      fun k hk => hafter k (hmj ▸ hk)
  · exact poison_congr h.poison hpo (by grind)
  · exact hb.presenceLaw h.presence
  · exact hb.walkLaw h.walk
  · exact hb.sessionLaw h.session
end Sys2Proof.Machine.MapProofs
end

section
namespace Sys2Proof.Machine.MapProofs
open Sys2Proof Sys2Proof.Machine Sys2Proof.Machine.Laws

/-! ## Aborts -/

/-- What the target of an aborted migration becomes (R64, R67). -/
def returnedState (m : Migration) (cause : LastOutcome) : FrameState :=
  if cause = .targetRetired then .retired
  else match m.origin with
    | .free => .free
    | .spare => .spare

theorem mem_waitersOn {s : State} {c d : ChanNo} : d ∈ s.waitersOn c ↔
    ∃ m, (s.chan d).state = .armed m ∧ m.after = some c ∧ d ∉ s.broken := by
  unfold State.waitersOn
  rw [List.mem_filter]
  cases (s.chan d).state <;> simp

theorem waitersOn_nodup (s : State) (c : ChanNo) : (s.waitersOn c).Nodup :=
  (List.nodup_finRange 4).filter _

/-- The tables an abort writes are those of `State.abortTables`, its line copy not yet abandoned. -/
theorem abortRecords_eq {s : State} {c d : ChanNo} {m : Migration} {source : FrameNo}
    (cause : LastOutcome) (hm : (s.chan c).state.migration = some m)
    (hl : (s.slice m.slice).loc = .migrating source d) :
    s.abortRecords c cause =
      { s.abortTables c m source { s.frame m.target with state := returnedState m cause } cause with
        arbs := s.arbs, flags := (s.abortRecords c cause).flags } := by
  unfold State.abortRecords
  rw [hm]
  simp only [revertSlice_migrating hl, State.returnTarget, returnedState, State.abortTables]
  split
  · cases cause <;> rfl
  · cases m.origin <;> cases cause <;> rfl

/-- R66: when a channel goes IDLE, the channels ARMED after it join those whose aborts follow. -/
theorem chain_abort {s t : State} {c : ChanNo} (h : chainLaw s) (hself : (t.chan c).state = .idle)
    (hother : ∀ d, d ≠ c → t.chan d = s.chan d)
    (hsrc : ∀ k, (t.slice k).loc.source = (s.slice k).loc.source)
    (hbr : t.broken = s.broken.erase c ++ s.waitersOn c) : chainLaw t := by
  obtain ⟨hrun, harm, hnd, hbrk⟩ := h
  have hne {d : ChanNo} (hd : (t.chan d).state ≠ .idle) : d ≠ c := by rintro rfl; exact hd hself
  have hwc : ∀ d ∈ s.waitersOn c, d ≠ c := by
    rintro d hd rfl
    obtain ⟨n, hn, ha, -⟩ := mem_waitersOn.1 hd
    obtain ⟨-, j, hj, hjd, -⟩ := harm d n hn
    exact hjd (Option.some.inj (hj.symm.trans ha))
  refine ⟨fun d n k hd => ?_, fun d n hd => ?_, ?_, fun d hd => ?_⟩
  · have hdc : d ≠ c := hne (by rw [hd]; nofun)
    rw [hother d hdc] at hd
    rw [hsrc]; exact hrun d n k hd
  · have hdc : d ≠ c := hne (by rw [hd]; nofun)
    rw [hother d hdc] at hd
    obtain ⟨h0, j, hj, hjd, hji⟩ := harm d n hd
    refine ⟨h0, j, hj, hjd, fun hnb => ?_⟩
    simp only [hbr, List.mem_append, not_or] at hnb
    have hdb : d ∉ s.broken := fun e => hnb.1 ((List.mem_erase_of_ne hdc).2 e)
    have hjc : j ≠ c := by
      rintro rfl; exact hnb.2 (mem_waitersOn.2 ⟨n, hd, hj, hdb⟩)
    rw [hother j hjc]; exact hji hdb
  · rw [hbr]
    refine List.nodup_append.2 ⟨hnd.erase c, waitersOn_nodup s c, ?_⟩
    rintro a ha b hb rfl
    obtain ⟨-, -, -, hnb⟩ := mem_waitersOn.1 hb
    exact hnb (List.mem_of_mem_erase ha)
  · rw [hbr] at hd
    rcases List.mem_append.1 hd with hd | hd
    · obtain ⟨hdc, hdb⟩ := hnd.mem_erase_iff.1 hd
      rw [hother d hdc]; exact hbrk d hdb
    · rw [hother d (hwc d hd)]
      obtain ⟨n, hn, -⟩ := mem_waitersOn.1 hd
      exact ⟨n, hn⟩

/-- An abort keeps the laws: its slice is MAPPED on the source, its target back by `target'`, and the
channels ARMED after it are to follow. -/
theorem abortTables_laws {s : State} {c : ChanNo} {m : Migration} {source : FrameNo}
    {target' : FrameRec} {cause : LastOutcome} (h : MapLaws s)
    (hm : (s.chan c).state.migration = some m) (hl : (s.slice m.slice).loc = .migrating source c)
    (ht : (target'.state = .free ∨ target'.state = .spare) ∧ target'.suspect = none ∨
      target'.state = .retired ∧ target'.suspect.isSome = true) :
    MapLaws (s.abortTables c m source target' cause) := by
  have htgt := target_of h hm
  have hact := active_of_migration h hm
  have hsl : ∀ j, (s.abortTables c m source target' cause).slice j = _ := slice_set (s := s) rfl
  have hfr : ∀ g, (s.abortTables c m source target' cause).frame g = _ := frame_set (s := s) rfl
  have hch : ∀ d, (s.abortTables c m source target' cause).chan d = _ := chan_set (s := s) rfl
  have hq : (s.abortTables c m source target' cause).spareQ =
    if target'.state = .spare then s.spareQ ++ [m.target] else s.spareQ := rfl
  have hbr : (s.abortTables c m source target' cause).broken = s.broken.erase c ++ s.waitersOn c := rfl
  have hr : (s.abortTables c m source target' cause).retireQ = s.retireQ := rfl
  have hph : (s.abortTables c m source target' cause).phase = s.phase := rfl
  have hpo : (s.abortTables c m source target' cause).poison = s.poison := rfl
  have hb : SameBringUp s (s.abortTables c m source target' cause) :=
    ⟨rfl, rfl, rfl, rfl, rfl, .rfl, .rfl, by grind, by grind⟩
  generalize s.abortTables c m source target' cause = t at *
  have hsrc : ∀ k, (t.slice k).loc.source = (s.slice k).loc.source := by grind [SliceLoc.source]
  have hmig : ∀ d, (t.chan d).state.migration = if c = d then none else (s.chan d).state.migration := by
    intro d; rw [hch]; split <;> rfl
  constructor
  · exact sliceFrame_congr h.sliceFrame hsrc (by grind)
  · exact sliceChan_remove h.sliceChan hm hmig (by rw [hsl, if_pos rfl]; rfl) (by grind)
  · exact target_remove h.target hm hmig (by grind) (by grind)
  · obtain ⟨hnd, hmem, -⟩ := h.spare
    have hn : m.target ∉ s.spareQ := fun e => by have := (hmem _).1 e; simp [htgt] at this
    refine ⟨?_, fun g => ?_, fun hp => absurd (hph ▸ hact) hp⟩
    · rw [hq]; split
      · exact List.nodup_append.2 ⟨hnd, by simp, by grind⟩
      · exact hnd
    · have := hmem g
      grind
  · exact retire_congr h.retire hr (by grind [FrameState.isBound])
  · have := h.suspect; grind [FrameState.isBound]
  · exact phase_congr h.phase (by simp [hph]) (fun _ _ hp => absurd (hph ▸ hact) hp)
  · exact chain_abort h.chain (by rw [hch, if_pos rfl]) (fun d hd => by rw [hch, if_neg (Ne.symm hd)])
      hsrc hbr
  · exact poison_congr h.poison hpo (by grind)
  · exact hb.presenceLaw h.presence
  · exact hb.walkLaw h.walk
  · exact hb.sessionLaw h.session

/-- The target returned by its origin is lawful. -/
theorem abortRecords_sameMap {s : State} {c : ChanNo} {m : Migration} {source : FrameNo}
    (cause : LastOutcome) (hm : (s.chan c).state.migration = some m)
    (hl : (s.slice m.slice).loc = .migrating source c) :
    SameMap (s.abortTables c m source { s.frame m.target with state := returnedState m cause } cause)
      (s.abortRecords c cause) := by
  rw [abortRecords_eq cause hm hl]
  constructor <;> intros <;> rfl

theorem returnedState_cases (m : Migration) {cause : LastOutcome} (hc : cause ≠ .targetRetired) :
    returnedState m cause = .free ∨ returnedState m cause = .spare := by
  unfold returnedState; rw [if_neg hc]; cases m.origin <;> simp

theorem abortRecords_laws {s : State} {c : ChanNo} {cause : LastOutcome} (h : MapLaws s)
    (hc : cause ≠ .targetRetired) : MapLaws (s.abortRecords c cause) := by
  cases hm : (s.chan c).state.migration with
  | none => simpa only [State.abortRecords, hm] using h
  | some m =>
    obtain ⟨source, hl, -⟩ := migrating_of h hm
    refine (abortRecords_sameMap cause hm hl).laws (abortTables_laws h hm hl (.inl ⟨?_, ?_⟩))
    · exact returnedState_cases m hc
    · have := target_of h hm
      exact notSuspect h.suspect (by simp [this, FrameState.isBound]) (by simp [this])

end Sys2Proof.Machine.MapProofs
end

section
namespace Sys2Proof.Machine.MapProofs
open Sys2Proof Sys2Proof.Machine Sys2Proof.Machine.Laws

/-! ## The commit of a migration -/

/-- The record of a channel that is started, in a given map (R54). -/
def startedChan (s : State) (r : Channel) : Channel :=
  match r.state with
  | .armed m =>
    match (s.slice m.slice).loc.source with
    | some f => { r with state := .running m f }
    | none => r
  | _ => r

theorem startChannel_eq (s : State) (c : ChanNo) :
    s.startChannel c = { s with chans := s.chans.set c (startedChan s (s.chan c)) } := by
  have hid : s = { s with chans := s.chans.set c (s.chan c) } := by simp [State.chan]
  unfold State.startChannel startedChan
  cases hc : (s.chan c).state with
  | armed m =>
    cases hl : (s.slice m.slice).loc.source with
    | some f => simp only [hl]; rfl
    | none => simpa only [hl] using hid
  | _ => exact hid

theorem startedChan_idem (s : State) (r : Channel) :
    startedChan s (startedChan s r) = startedChan s r := by
  unfold startedChan
  cases hr : r.state with
  | armed m => cases hl : (s.slice m.slice).loc.source <;> simp [hr, hl]
  | _ => simp [hr]

/-- Starting a list of channels starts each of them and changes nothing else. -/
theorem startChannels_eq (l : List ChanNo) (s : State) :
    l.foldl (fun t d => t.startChannel d) s =
      { s with chans := Vector.ofFn fun d =>
          if d ∈ l then startedChan s (s.chan d) else s.chan d } := by
  induction l generalizing s with
  | nil => simp [State.chan]
  | cons c l ih =>
    rw [List.foldl_cons, ih, startChannel_eq]
    have hs : ∀ r, startedChan { s with chans := s.chans.set c (startedChan s (s.chan c)) } r =
        startedChan s r := fun _ => rfl
    have hc : ∀ d, ({ s with chans := s.chans.set c (startedChan s (s.chan c)) } : State).chan d = _ :=
      chan_set rfl
    simp only [hs, hc]
    congr 2
    funext d
    by_cases hd : c = d
    · subst hd; simp [startedChan_idem]
    · simp [hd, Ne.symm hd]

/-- The slice on its target and the old source released: what a commit does but for the channels. -/
def moveSlice (s : State) (m : Migration) (source : FrameNo) : State :=
  ((s.setLoc m.slice (.mapped m.target)).setFrameState m.target (.bound m.slice)).releaseFrame source

/-- A channel's record after the commit of channel `c`: `c` is IDLE, and what waited on it RUNNING. -/
def committedChan (s : State) (c : ChanNo) (m : Migration) (d : ChanNo) : Channel :=
  if c = d then { state := .idle, last := .committed }
  else if d ∈ s.waitersOn c then startedChan (s.setLoc m.slice (.mapped m.target)) (s.chan d)
  else s.chan d

theorem startedChan_idle (s : State) (l : LastOutcome) :
    startedChan s { state := .idle, last := l } = { state := .idle, last := l } := rfl

/-- The tables a commit writes (R60, R61). -/
theorem commit_eq (s : State) (c : ChanNo) (m : Migration) (source : FrameNo) :
    s.commit c m source =
      { moveSlice s m source with
        chans := Vector.ofFn (committedChan s c m)
        flags := (moveSlice s m source).flags ||| Flag.migDone.mask
        generation := s.generation + 1 } := by
  have hu := releaseFrame_frame
    ((s.setLoc m.slice (.mapped m.target)).setFrameState m.target (.bound m.slice)) source
  change moveSlice s m source = _ at hu
  have hst : ∀ l r, startedChan (((moveSlice s m source).setChan c
      { state := .idle, last := l }).raise .migDone) r =
      startedChan (s.setLoc m.slice (.mapped m.target)) r := fun l r => by rw [hu]; rfl
  have hch : ∀ d, (moveSlice s m source).chan d = s.chan d := fun d => by rw [hu]; rfl
  have hgen : (moveSlice s m source).generation = s.generation := by rw [hu]; rfl
  unfold State.commit
  simp only [startChannels_eq]
  change State.bump { ((moveSlice s m source).setChan c _).raise .migDone with chans := _ } = _
  simp only [State.bump, State.raise, State.setChan, hgen]
  congr 1
  congr 1
  funext d
  have hcd : (((moveSlice s m source).setChan c { state := .idle, last := .committed }).raise
      .migDone).chan d = if c = d then { state := .idle, last := .committed } else s.chan d := by
    rw [raise_chan, setChan_chan, hch]
  change (if d ∈ s.waitersOn c then startedChan (((moveSlice s m source).setChan c _).raise .migDone)
      ((((moveSlice s m source).setChan c _).raise .migDone).chan d)
    else (((moveSlice s m source).setChan c _).raise .migDone).chan d) = committedChan s c m d
  rw [hst, hcd]
  unfold committedChan
  by_cases hd : c = d
  · simp [hd, startedChan_idle]
  · simp [hd]

theorem moveSlice_slice (s : State) (m : Migration) (source : FrameNo) (j : SliceNo) :
    (moveSlice s m source).slice j =
      if m.slice = j then { s.slice m.slice with loc := .mapped m.target } else s.slice j := by
  unfold moveSlice
  rw [releaseFrame_eq]
  exact setLoc_slice_eq s m.slice j _

theorem moveSlice_frame {s : State} {m : Migration} {source : FrameNo} (hne : m.target ≠ source)
    (g : FrameNo) :
    (moveSlice s m source).frame g =
      if source = g then { s.frame source with
        state := if (s.frame source).suspect.isSome then .retired else .free }
      else if m.target = g then { s.frame m.target with state := .bound m.slice } else s.frame g := by
  have hs : ((s.setLoc m.slice (.mapped m.target)).setFrameState m.target (.bound m.slice)).frame
      source = s.frame source := by rw [setFrameState_frame_eq, if_neg hne]; rfl
  unfold moveSlice
  rw [releaseFrame_eq, hs]
  refine (frame_set (s := (s.setLoc m.slice (.mapped m.target)).setFrameState m.target
    (.bound m.slice)) rfl g).trans ?_
  rw [setFrameState_frame_eq]
  rfl

theorem startedChan_cases (s : State) (r : Channel) :
    startedChan s r = r ∨ ∃ m f, r.state = .armed m ∧ (s.slice m.slice).loc.source = some f ∧
      startedChan s r = { r with state := .running m f } := by
  unfold startedChan
  cases hr : r.state with
  | armed m =>
    cases hl : (s.slice m.slice).loc.source with
    | some f => exact .inr ⟨m, f, rfl, hl, by simp only [hl]⟩
    | none => exact .inl (by simp only [hl])
  | _ => exact .inl rfl

theorem startedChan_migration (s : State) (r : Channel) :
    (startedChan s r).state.migration = r.state.migration := by
  rcases startedChan_cases s r with h | ⟨m, f, hr, -, h⟩
  · rw [h]
  · rw [h, hr]; rfl

theorem committedChan_migration (s : State) (c : ChanNo) (m : Migration) (d : ChanNo) :
    (committedChan s c m d).state.migration =
      if c = d then none else (s.chan d).state.migration := by
  unfold committedChan
  split
  · rfl
  · split
    · exact startedChan_migration _ _
    · rfl

/-- An ARMED channel that waits on the committed one starts under the laws. -/
theorem committedChan_waiting {s : State} (h : MapLaws s) {c d : ChanNo} {m n k : Migration}
    (hn : (s.chan c).state.migration = some n) (hms : m.slice = n.slice)
    (hk : (s.chan d).state = .armed k) (hka : k.after = some c) (hd : d ∉ s.broken) :
    ∃ f, committedChan s c m d = { s.chan d with state := .running k f } ∧
      (s.slice k.slice).loc.source = some f ∧ m.slice ≠ k.slice := by
  have hkm : (s.chan d).state.migration = some k := by rw [hk]; rfl
  have hcd : c ≠ d := by
    rintro rfl
    obtain ⟨-, j, hj, hjd, -⟩ := h.chain.2.1 c k hk
    exact hjd (Option.some.inj (hj.symm.trans hka))
  have hap := (migrations_apart h hn hkm hcd).1
  obtain ⟨f, hl, -⟩ := migrating_of h hkm
  refine ⟨f, ?_, by rw [hl]; rfl, hms ▸ hap⟩
  have hw : d ∈ s.waitersOn c := mem_waitersOn.2 ⟨k, hk, hka, hd⟩
  unfold committedChan startedChan
  rw [if_neg hcd, if_pos hw]
  simp only [hk, setLoc_slice_eq, hms, if_neg hap, hl, SliceLoc.source]

section
variable (s : State) (c : ChanNo) (m : Migration) (source : FrameNo)

theorem commit_fields : s.commit c m source =
    { s with
      slices := (s.commit c m source).slices
      frames := (s.commit c m source).frames
      retireQ := (s.commit c m source).retireQ
      chans := (s.commit c m source).chans
      flags := (s.commit c m source).flags
      generation := s.generation + 1 } := by
  rw [commit_eq, moveSlice, releaseFrame_frame]; rfl

theorem commit_slice (j : SliceNo) : (s.commit c m source).slice j =
    if m.slice = j then { s.slice m.slice with loc := .mapped m.target } else s.slice j := by
  rw [commit_eq]; exact moveSlice_slice s m source j

theorem commit_chan (d : ChanNo) : (s.commit c m source).chan d = committedChan s c m d := by
  rw [commit_eq]; simp [State.chan]

theorem commit_frameRec (hne : m.target ≠ source) (g : FrameNo) :
    (s.commit c m source).frame g =
      if source = g then { s.frame source with
        state := if (s.frame source).suspect.isSome then .retired else .free }
      else if m.target = g then { s.frame m.target with state := .bound m.slice } else s.frame g := by
  rw [commit_eq]; exact moveSlice_frame hne g

end

/-- A channel ARMED after a commit was ARMED before, and its abort is still to follow or it waits on
another channel. -/
theorem committedChan_armed {s : State} (h : MapLaws s) {c d : ChanNo} {m n k : Migration}
    (hn : (s.chan c).state.migration = some n) (hms : m.slice = n.slice)
    (hd : (committedChan s c m d).state = .armed k) :
    (s.chan d).state = .armed k ∧ c ≠ d ∧ (d ∈ s.broken ∨ k.after ≠ some c) := by
  have hcd : c ≠ d := by rintro rfl; rw [committedChan, if_pos rfl] at hd; cases hd
  by_cases hw : d ∈ s.waitersOn c
  · obtain ⟨k', hk', ha, hb⟩ := mem_waitersOn.1 hw
    obtain ⟨f, hf, -⟩ := committedChan_waiting h hn hms hk' ha hb
    rw [hf] at hd; cases hd
  · rw [committedChan, if_neg hcd, if_neg hw] at hd
    refine ⟨hd, hcd, ?_⟩
    by_contra hno
    obtain ⟨hnb, hna⟩ := not_or.1 hno
    exact hw (mem_waitersOn.2 ⟨k, hd, not_not.1 hna, hnb⟩)

/-- A channel RUNNING after a commit ran before, or starts from its slice's source at cursor 0. -/
theorem committedChan_running {s : State} (h : MapLaws s) {c d : ChanNo} {m n k : Migration}
    {g : FrameNo} (hn : (s.chan c).state.migration = some n) (hms : m.slice = n.slice)
    (hd : (committedChan s c m d).state = .running k g) :
    (s.slice k.slice).loc.source = some g ∧ k.cursor ≤ Config.linesPerFrame ∧ k.slice ≠ m.slice := by
  obtain ⟨hrn, harm, -, -⟩ := h.chain
  have hcd : c ≠ d := by rintro rfl; rw [committedChan, if_pos rfl] at hd; cases hd
  have hk : (s.chan d).state.migration = some k := by
    have := committedChan_migration s c m d
    rw [if_neg hcd, hd] at this
    exact this.symm
  have hks : k.slice ≠ m.slice := fun e => (migrations_apart h hn hk hcd).1 (hms.symm.trans e.symm)
  by_cases hw : d ∈ s.waitersOn c
  · obtain ⟨k', hk', ha, hb⟩ := mem_waitersOn.1 hw
    obtain ⟨f, hf, hsrc, -⟩ := committedChan_waiting h hn hms hk' ha hb
    rw [hf] at hd
    cases hd
    exact ⟨hsrc, by rw [(harm d k hk').1]; exact Nat.zero_le _, hks⟩
  · rw [committedChan, if_neg hcd, if_neg hw] at hd
    exact ⟨(hrn d k g hd).1, (hrn d k g hd).2, hks⟩

/-- R54: the channels after a commit. -/
theorem chain_commit {s t : State} {c : ChanNo} {m n : Migration} (h : MapLaws s)
    (hn : (s.chan c).state.migration = some n) (hms : m.slice = n.slice)
    (hrun : ∀ k, (s.chan c).state ≠ .armed k) (hch : ∀ d, t.chan d = committedChan s c m d)
    (hsrc : ∀ k, k ≠ m.slice → (t.slice k).loc.source = (s.slice k).loc.source)
    (hbr : t.broken = s.broken) : chainLaw t := by
  obtain ⟨-, harm, hnd, hbrk⟩ := h.chain
  refine ⟨fun d k g hd => ?_, fun d k hd => ?_, hbr ▸ hnd, fun d hd => ?_⟩
  · obtain ⟨hg, hcur, hks⟩ := committedChan_running h hn hms (hch d ▸ hd)
    exact ⟨(hsrc _ hks).trans hg, hcur⟩
  · obtain ⟨hd', -, hb⟩ := committedChan_armed h hn hms (hch d ▸ hd)
    obtain ⟨h0, j, hj, hjd, hji⟩ := harm d k hd'
    refine ⟨h0, j, hj, hjd, fun hnb => ?_⟩
    rw [hbr] at hnb
    have hjc : c ≠ j := by rintro rfl; exact (hb.resolve_left hnb) hj
    rw [← migration_none.ne, hch, committedChan_migration, if_neg hjc]
    exact migration_none.ne.2 (hji hnb)
  · rw [hbr] at hd
    obtain ⟨k, hk⟩ := hbrk d hd
    have hcd : c ≠ d := by rintro rfl; exact hrun k hk
    have hw : d ∉ s.waitersOn c := fun hw => by
      obtain ⟨-, -, -, hb⟩ := mem_waitersOn.1 hw
      exact hb hd
    exact ⟨k, by rw [hch, committedChan, if_neg hcd, if_neg hw]; exact hk⟩

theorem commit_laws {s : State} {c : ChanNo} {m n : Migration} {source : FrameNo} (h : MapLaws s)
    (hrun : (s.chan c).state = .running n source) (hms : m.slice = n.slice)
    (hmt : m.target = n.target) : MapLaws (s.commit c m source) := by
  have hm : (s.chan c).state.migration = some n := by rw [hrun]; rfl
  have htgt := target_of h hm
  have hact := active_of_migration h hm
  obtain ⟨f, hl, hfb⟩ := migrating_of h hm
  obtain rfl : source = f := by
    have := (h.chain.1 c n source hrun).1; rw [hl] at this; exact (Option.some.inj this).symm
  have hne : m.target ≠ source := by rintro e; rw [hmt] at e; rw [e, hfb] at htgt; cases htgt
  rw [← hms] at hl hfb
  rw [← hmt] at htgt
  have hsus : (s.frame m.target).suspect = none :=
    notSuspect h.suspect (by simp [htgt, FrameState.isBound]) (by simp [htgt])
  have hsb : ∀ g, ((s.setLoc m.slice (.mapped m.target)).setFrameState m.target
      (.bound m.slice)).suspectBound g ↔ s.suspectBound g := fun g => by
    have hg : ((s.setLoc m.slice (.mapped m.target)).setFrameState m.target (.bound m.slice)).frame
        g = if m.target = g then { s.frame m.target with state := .bound m.slice } else s.frame g :=
      setFrameState_frame_eq _ _ _ _
    simp only [State.suspectBound, hg]
    split
    · next e => subst e; simp [hsus]
    · rfl
  have hrl := retire_congr (t := (s.setLoc m.slice (.mapped m.target)).setFrameState m.target
    (.bound m.slice)) h.retire rfl hsb
  have hr : (s.commit c m source).retireQ = ((s.setLoc m.slice (.mapped m.target)).setFrameState
      m.target (.bound m.slice)).retireQWithout source := by
    rw [commit_eq, moveSlice, releaseFrame_eq]; dsimp only; split
    · rfl
    · next hs => exact (retireQWithout_of_not hrl (fun hb => hs hb.2)).symm
  have e := commit_fields s c m source
  have hsl := commit_slice s c m source
  have hfr := commit_frameRec s c m source hne
  have hch := commit_chan s c m source
  generalize s.commit c m source = t at *
  have hq : t.spareQ = s.spareQ := by rw [e]
  have hbr : t.broken = s.broken := by rw [e]
  have hpo : t.poison = s.poison := by rw [e]
  have hph : t.phase = s.phase := by rw [e]
  have hst : ∀ k, ((t.frame k).state = .absent ↔ (s.frame k).state = .absent) ∧
      ((t.frame k).state = .untested ↔ (s.frame k).state = .untested) := by clear e; grind
  have hb : SameBringUp s t := ⟨by rw [e], by rw [e], by rw [e], by rw [e], by rw [e],
    by rw [hph], by rw [hph], fun g => (hst g).1, fun g => (hst g).2⟩
  have hmig : ∀ d, (t.chan d).state.migration =
      if c = d then none else (s.chan d).state.migration :=
    fun d => by rw [hch, committedChan_migration]
  clear e
  constructor
  · intro k g
    have := h.sliceFrame k g
    have := h.sliceFrame k source
    have := h.sliceFrame m.slice g
    have := h.sliceFrame k m.target
    clear hsb hrl hr
    grind [SliceLoc.source]
  · exact sliceChan_remove h.sliceChan hm hmig (by rw [hsl, if_pos hms]; rfl) (by grind)
  · exact target_remove h.target hm hmig (by grind) (by grind)
  · exact spare_congr h.spare hq (by grind) (by simp [hph])
  · refine retire_without hrl hr fun g => ?_
    rw [hsb]
    grind [FrameState.isBound]
  · have := h.suspect; grind [FrameState.isBound]
  · exact phase_congr h.phase (by simp [hph]) (fun _ _ hp => absurd (hph ▸ hact) hp)
  · exact chain_commit h hm hms (by simp [hrun]) hch (fun k hk => by rw [hsl, if_neg (Ne.symm hk)]) hbr
  · exact poison_congr h.poison hpo (by grind)
  · exact hb.presenceLaw h.presence
  · exact hb.walkLaw h.walk
  · exact hb.sessionLaw h.session
end Sys2Proof.Machine.MapProofs
end

section
namespace Sys2Proof.Machine.MapProofs
open Sys2Proof Sys2Proof.Machine Sys2Proof.Machine.Laws

/-! ## Searches in ascending number -/

theorem find_finRange_none {n : Nat} {p : Fin n → Bool} :
    (List.finRange n).find? p = none ↔ ∀ a, p a = false := by
  simp

theorem lowest_of_find_finRange {n : Nat} {p : Fin n → Bool} {a : Fin n}
    (h : (List.finRange n).find? p = some a) : p a = true ∧ ∀ b < a, p b = false := by
  obtain ⟨hp, as, bs, hl, has⟩ := List.find?_eq_some_iff_append.1 h
  refine ⟨hp, fun b hb => ?_⟩
  have hs : (as ++ a :: bs).Pairwise (· < ·) := hl ▸ List.pairwise_lt_finRange n
  have hm : b ∈ as ++ a :: bs := hl ▸ List.mem_finRange b
  rcases List.mem_append.1 hm with hm | hm
  · simpa using has b hm
  · have hab := (List.pairwise_cons.1 (List.pairwise_append.1 hs).2.1).1
    rcases List.mem_cons.1 hm with rfl | hm
    · exact absurd hb (lt_irrefl _)
    · exact absurd (hab b hm) (not_lt.2 hb.le)

theorem find_finRange_some {n : Nat} {p : Fin n → Bool} {a : Fin n} :
    (List.finRange n).find? p = some a ↔ p a = true ∧ ∀ b < a, p b = false := by
  refine ⟨lowest_of_find_finRange, fun ⟨hp, hlow⟩ => ?_⟩
  cases h : (List.finRange n).find? p with
  | none => rw [find_finRange_none.1 h a] at hp; cases hp
  | some b =>
    obtain ⟨hb, hlow'⟩ := lowest_of_find_finRange h
    rcases lt_trichotomy a b with hab | rfl | hab
    · rw [hlow' a hab] at hp; cases hp
    · rfl
    · rw [hlow b hab] at hb; cases hb

/-! ## The end of a frame test -/

theorem testVerdict_eq (s : State) (f : FrameNo) :
    s.testVerdict f =
      { s with
        frames := s.frames.set f { s.frame f with
          state := if s.walk.failed then .retired else .free
          suspect := if s.walk.failed then some .inventory else (s.frame f).suspect }
        flags := (s.testVerdict f).flags
        generation := s.generation + 1 } := by
  unfold State.testVerdict
  cases s.walk.failed
  · simp [State.setFrameState, State.setFrame, State.bump]
  · simp [State.setFrameState, State.setFrame, State.bump, State.retireFrame, State.setSuspect,
      State.raise, State.frame]

theorem testVerdict_frameRec (s : State) (f g : FrameNo) :
    (s.testVerdict f).frame g = if f = g then { s.frame f with
        state := if s.walk.failed then .retired else .free
        suspect := if s.walk.failed then some .inventory else (s.frame f).suspect }
      else s.frame g :=
  frame_set (by rw [testVerdict_eq]) g

/-- The walk's bookkeeping once the verdict is given: the next frame in test, or the end (R127,
R128). -/
def walkTo (s : State) (next : Option FrameNo) : State :=
  { s with
    walk := { s.walk with running := next.isSome, frame := next }
    phase := if next.isSome then s.phase else .staged }

theorem testComplete_sameMap {s : State} {f : FrameNo} (hr : s.walk.running = true) :
    SameMap (walkTo (s.testVerdict f) ((s.testVerdict f).nextUntested f)) (s.testComplete f) := by
  have hr' : (s.testVerdict f).walk.running = true := by rw [testVerdict_eq]; exact hr
  unfold State.testComplete walkTo
  cases hg : (s.testVerdict f).nextUntested f with
  | some g =>
    simp only [hg]
    refine SameMap.trans ?_ (sameMap_walkRequest _ g .write 0)
    exact ⟨rfl, fun _ => rfl, fun _ => rfl, rfl, rfl, rfl, rfl, rfl, rfl, rfl, rfl, hr', rfl, rfl, rfl,
      rfl⟩
  | none =>
    simp only [hg]
    constructor <;> intros <;> rfl

/-- No slice is mapped, and so no frame is BOUND or TARGET and no channel runs. -/
structure Blank (s : State) : Prop where
  slices : ∀ i, (s.slice i).loc = .unmapped
  bound : ∀ f i, (s.frame f).state ≠ .bound i
  target : ∀ f, (s.frame f).state ≠ .target
  chans : ∀ c, (s.chan c).state = .idle
  retireQ : s.retireQ = []
  broken : s.broken = []
  poison : s.poison = []

theorem Blank.testVerdict {s : State} (b : Blank s) (f : FrameNo) : Blank (s.testVerdict f) := by
  have e := testVerdict_eq s f
  have hfr := testVerdict_frameRec s f
  generalize s.testVerdict f = u at *
  refine ⟨fun i => ?_, fun k i => ?_, fun k => ?_, fun c => ?_, ?_, ?_, ?_⟩
  · rw [slice_congr (s := s) (by rw [e])]; exact b.slices i
  · have := b.bound k i
    rw [hfr]; split
    · dsimp only; split <;> simp
    · exact this
  · have := b.target k
    rw [hfr]; split
    · dsimp only; split <;> simp
    · exact this
  · rw [chan_congr (s := s) (by rw [e])]; exact b.chans c
  · rw [e]; exact b.retireQ
  · rw [e]; exact b.broken
  · rw [e]; exact b.poison

theorem Blank.walkTo {s : State} (b : Blank s) (next : Option FrameNo) : Blank (walkTo s next) :=
  ⟨b.slices, b.bound, b.target, b.chans, b.retireQ, b.broken, b.poison⟩

theorem isBound_iff {x : FrameState} : x.isBound = true ↔ ∃ i, x = .bound i := by
  cases x <;> simp [FrameState.isBound]

/-- Outside ACTIVE the map is blank (R5). -/
theorem Blank.of_laws {s : State} (h : MapLaws s) (hp : s.phase ≠ .active) : Blank s := by
  have hu := h.phase hp
  have hc := idle_of_empty h hu
  have hb : ∀ f i, (s.frame f).state ≠ .bound i := fun f i e => by
    have := (h.sliceFrame i f).2 e; rw [hu] at this; cases this
  refine ⟨hu, hb, fun f e => ?_, hc, ?_, ?_, ?_⟩
  · obtain ⟨c, hm⟩ := (h.target.1 f).1 e; rw [hc] at hm; cases hm
  · refine List.eq_nil_iff_forall_not_mem.2 fun f hf => ?_
    obtain ⟨i, hi⟩ := isBound_iff.1 (h.retire.2.2.1 f hf).1
    exact hb f i hi
  · refine List.eq_nil_iff_forall_not_mem.2 fun c hm => ?_
    obtain ⟨m, hm⟩ := h.chain.2.2.2 c hm; rw [hc] at hm; cases hm
  · exact List.eq_nil_iff_forall_not_mem.2 fun e he => h.poison.2.2 e he (hu e.1)

theorem Blank.laws {s : State} (b : Blank s) (hsp : spareLaw s) (hsu : suspectLaw s)
    (hpr : presenceLaw s) (hw : walkLaw s) (hse : sessionLaw s) : MapLaws s where
  sliceFrame i f := by rw [b.slices]; exact iff_of_false nofun (b.bound f i)
  sliceChan i c := by rw [b.slices, b.chans]; exact iff_of_false nofun nofun
  target := ⟨fun f => iff_of_false (b.target f) fun ⟨c, hc⟩ => by
      simp [b.chans, ChanState.migration] at hc,
    fun c d f hc => by simp [b.chans, ChanState.migration] at hc⟩
  spare := hsp
  retire := by
    rw [retireLaw_iff, b.retireQ]
    refine ⟨List.nodup_nil, Nat.zero_le _, nofun, fun f hf => ?_⟩
    obtain ⟨i, hi⟩ := isBound_iff.1 hf.1
    exact absurd hi (b.bound f i)
  suspect := hsu
  phase _ := b.slices
  chain := ⟨fun c m f hc => by simp [b.chans] at hc, fun c m hc => by simp [b.chans] at hc,
    by rw [b.broken]; exact List.nodup_nil, by rw [b.broken]; nofun⟩
  poison := by rw [poisonLaw, b.poison]; exact ⟨Nat.zero_le _, List.nodup_nil, nofun⟩
  presence := hpr
  walk := hw
  session := hse

theorem walkTo_laws {s : State} {f : FrameNo} (h : MapLaws s) (hp : s.powered = true)
    (hw : s.walk.frame = some f) :
    MapLaws (walkTo (s.testVerdict f) ((s.testVerdict f).nextUntested f)) := by
  have hun := h.walk.2.2.1 f hw
  have hinv : s.phase = .inventory := (h.walk.1 hp).1 (by rw [h.walk.2.1, hw]; rfl)
  have hb := ((Blank.of_laws h (by simp [hinv])).testVerdict f).walkTo
    ((s.testVerdict f).nextUntested f)
  have hq : s.spareQ = [] := h.spare.2.2 (by simp [hinv])
  have hsess : s.importS.isSome = false := by
    rw [Bool.eq_false_iff]; intro e; have := h.session.2 e; simp [hinv] at this
  have hlow : ∀ g, (s.frame g).state = .untested → f ≤ g := fun g hg => by
    obtain ⟨f', hf', hle⟩ := h.walk.2.2.2 g hg
    rw [hw] at hf'; exact Option.some.inj hf' ▸ hle
  have hnext : (match (s.testVerdict f).nextUntested f with
      | some g => (f < g ∧ ((s.testVerdict f).frame g).state = .untested) ∧
        ∀ k < g, f < k → ((s.testVerdict f).frame k).state ≠ .untested
      | none => ∀ k, f < k → ((s.testVerdict f).frame k).state ≠ .untested) := by
    cases hn : (s.testVerdict f).nextUntested f with
    | none => simpa [State.nextUntested] using hn
    | some g => simpa [State.nextUntested, find_finRange_some] using hn
  generalize (s.testVerdict f).nextUntested f = n at *
  have hfr := testVerdict_frameRec s f
  have e := testVerdict_eq s f
  generalize s.testVerdict f = u at *
  have hphase : u.phase = .inventory := by rw [e]; exact hinv
  have hsus := h.suspect
  have hpre := h.presence
  have huq : u.spareQ = [] := by rw [e]; exact hq
  have hun' : ∀ k, (u.frame k).state = .untested → f < k ∧ (s.frame k).state = .untested := by
    clear e
    intro k hk
    rw [hfr] at hk
    split at hk
    · dsimp only at hk; split at hk <;> cases hk
    · next hne => exact ⟨lt_of_le_of_ne (hlow k hk) hne, hk⟩
  have hst : ∀ k, (walkTo u n).frame k = u.frame k := fun _ => rfl
  refine hb.laws ⟨?_, fun k => ?_, fun _ => huq⟩ (fun k => ?_) (fun k => ?_)
    ⟨fun _ => ?_, rfl, fun k hk => ?_, fun k hk => ?_⟩ ?_
  · change u.spareQ.Nodup; rw [huq]; exact List.nodup_nil
  · change k ∈ u.spareQ ↔ _
    have := h.spare.2.1 k
    rw [hq] at this
    rw [huq, hst, hfr]; split
    · dsimp only; split <;> simp
    · exact this
  · rw [hst, hfr]; split
    · dsimp only
      have := notSuspect h.suspect (f := f) (by simp [hun, FrameState.isBound]) (by simp [hun])
      cases s.walk.failed <;> simp [this]
    · exact hsus k
  · have hpr : (walkTo u n).presence = s.presence := by rw [e]; rfl
    rw [hst, hfr, hpr, ← hpre k]; split
    · next hk => subst hk; dsimp only; rw [hun]; split <;> simp
    · rfl
  · cases n <;> simp [walkTo, hphase]
  · change n = some k at hk
    subst hk
    exact hnext.1.2
  · obtain ⟨hfk, -⟩ := hun' k hk
    cases n with
    | none => exact absurd hk (hnext k hfk)
    | some g => exact ⟨g, rfl, not_lt.1 fun hkg => hnext.2 k hkg hfk hk⟩
  · have hs : (walkTo u n).importS = s.importS := by rw [e]; rfl
    have : (walkTo u n).phase ≠ .importing := by cases n <;> simp [walkTo, hphase]
    rw [sessionLaw, hs, hsess]; simpa using this
end Sys2Proof.Machine.MapProofs
end

section
namespace Sys2Proof.Machine.MapProofs
open Sys2Proof Sys2Proof.Machine Sys2Proof.Machine.Laws

/-! ## ADOPT_DEFAULT -/

/-- In ACTIVE with no channel at work: what a map adopted or imported has to meet. -/
theorem laws_of_settled {t : State} (ha : t.phase = .active) (hc : ∀ c, (t.chan c).state = .idle)
    (hch : ∀ i, (t.slice i).loc.channel = none) (htg : ∀ f, (t.frame f).state ≠ .target)
    (hbr : t.broken = []) (hpo : t.poison = []) (hsf : sliceFrameLaw t) (hsp : spareLaw t)
    (hr : retireLaw t) (hsu : suspectLaw t) (hpr : presenceLaw t) (hw : walkLaw t)
    (hse : sessionLaw t) : MapLaws t where
  sliceFrame := hsf
  sliceChan i c := by rw [hch, hc]; exact iff_of_false nofun nofun
  target := ⟨fun f => iff_of_false (htg f) fun ⟨c, h⟩ => by simp [hc, ChanState.migration] at h,
    fun c d f h => by simp [hc, ChanState.migration] at h⟩
  spare := hsp
  retire := hr
  suspect := hsu
  phase h := absurd ha h
  chain := ⟨fun c m f h => by simp [hc] at h, fun c m h => by simp [hc] at h,
    by rw [hbr]; exact List.nodup_nil, by rw [hbr]; nofun⟩
  poison := by rw [poisonLaw, hpo]; exact ⟨Nat.zero_le _, List.nodup_nil, nofun⟩
  presence := hpr
  walk := hw
  session := hse

theorem mem_freeFrames {s : State} {f : FrameNo} : f ∈ s.freeFrames ↔ (s.frame f).state = .free := by
  simp [State.freeFrames]

theorem freeFrames_nodup (s : State) : s.freeFrames.Nodup := (List.nodup_finRange 64).filter _

theorem adoptCount_le (s : State) : s.adoptCount ≤ 48 ∧ s.adoptCount ≤ s.freeFrames.length :=
  ⟨Nat.min_le_left _ _, (Nat.min_le_right _ _).trans (Nat.sub_le _ _)⟩

theorem adopt_slice (s : State) (i : SliceNo) : s.adopt.slice i = s.adoptSlice i := by
  unfold State.adopt; rw [bumpIf_eq]; simp [State.slice]

theorem adopt_frameRec (s : State) (f : FrameNo) :
    s.adopt.frame f = { s.frame f with state := s.adoptFrame f } := by
  unfold State.adopt; rw [bumpIf_eq]; simp [State.frame]

/-- The state of a frame after ADOPT_DEFAULT, by its place among the FREE frames. -/
theorem adoptFrame_cases (s : State) (f : FrameNo) :
    (s.frame f).state ≠ .free ∧ s.adoptFrame f = (s.frame f).state ∨
    (s.frame f).state = .free ∧
      ((∃ i : SliceNo, s.freeFrames.idxOf f = i.val ∧ i.val < s.adoptCount ∧
          s.adoptFrame f = .bound i) ∨
        s.adoptCount ≤ s.freeFrames.idxOf f ∧ s.adoptFrame f = .spare) := by
  have hle := (adoptCount_le s).1
  unfold State.adoptFrame
  by_cases hf : (s.frame f).state = .free
  · refine .inr ⟨hf, ?_⟩
    rw [if_pos hf]
    by_cases hn : s.freeFrames.idxOf f < s.adoptCount
    · exact .inl ⟨⟨s.freeFrames.idxOf f, by omega⟩, rfl, hn, by rw [dif_pos (by omega), if_pos hn]⟩
    · refine .inr ⟨not_lt.1 hn, ?_⟩
      split <;> simp_all
  · exact .inl ⟨hf, by rw [if_neg hf]⟩

theorem adoptSlice_loc {s : State} (hu : ∀ i, (s.slice i).loc = .unmapped) (i : SliceNo) (f : FrameNo) :
    (s.adoptSlice i).loc.source = some f ↔
      (s.frame f).state = .free ∧ s.freeFrames.idxOf f = i.val ∧ i.val < s.adoptCount := by
  have hle := (adoptCount_le s).2
  unfold State.adoptSlice
  by_cases hi : i.val < s.adoptCount
  · have hlt : i.val < s.freeFrames.length := by omega
    rw [if_pos hi, List.getElem?_eq_getElem hlt]
    simp only [SliceLoc.source, Option.some.injEq, ← mem_freeFrames, hi, and_true]
    constructor
    · rintro rfl
      exact ⟨List.getElem_mem _, (freeFrames_nodup s).idxOf_getElem _ _⟩
    · rintro ⟨hm, he⟩
      have := List.getElem_idxOf (List.idxOf_lt_length_iff.2 hm)
      simpa only [he] using this
  · rw [if_neg hi, hu]
    simp [SliceLoc.source, hi]

theorem mem_drop_iff_idxOf {α : Type} [DecidableEq α] {l : List α} (hnd : l.Nodup) {n : Nat} {a : α} :
    a ∈ l.drop n ↔ a ∈ l ∧ n ≤ l.idxOf a := by
  rw [List.mem_drop_iff_getElem]
  constructor
  · rintro ⟨i, hi, rfl⟩
    exact ⟨List.getElem_mem _, by rw [hnd.idxOf_getElem]; omega⟩
  · rintro ⟨hm, hle⟩
    have hlt := List.idxOf_lt_length_iff.2 hm
    refine ⟨l.idxOf a - n, by omega, ?_⟩
    have := List.getElem_idxOf hlt
    simpa only [Nat.add_sub_cancel' hle] using this

theorem adopt_laws {s : State} (h : MapLaws s) (hp : s.phase = .staged) : MapLaws s.adopt := by
  have hb := Blank.of_laws h (by simp [hp])
  have hq0 : s.spareQ = [] := h.spare.2.2 (by simp [hp])
  have hns : ∀ f, (s.frame f).state ≠ .spare := fun f hf => by
    have := (h.spare.2.1 f).2 hf; simp [hq0] at this
  have hsl := adopt_slice s
  have hfr := adopt_frameRec s
  have hq : s.adopt.spareQ = s.freeFrames.drop s.adoptCount := by
    unfold State.adopt; rw [bumpIf_eq]; simp [hq0]
  have hca := adoptFrame_cases s
  have hnd := freeFrames_nodup s
  have e : s.adopt = { s with
      slices := s.adopt.slices, frames := s.adopt.frames, spareQ := s.adopt.spareQ
      phase := .active, generation := s.adopt.generation } := by
    unfold State.adopt; rw [bumpIf_eq]
  generalize s.adopt = t at *
  have hst : ∀ f, ((t.frame f).state = .absent ↔ (s.frame f).state = .absent) ∧
      ((t.frame f).state = .untested ↔ (s.frame f).state = .untested) ∧
      (t.frame f).state ≠ .target ∧ (t.frame f).suspect = (s.frame f).suspect := fun f => by
    have ht := hb.target f
    rw [hfr]
    rcases hca f with ⟨-, hf⟩ | ⟨hf', ⟨i, -, -, hf⟩ | ⟨-, hf⟩⟩
    · simp [hf, ht]
    · simp [hf, hf']
    · simp [hf, hf']
  have hsus : ∀ f, (t.frame f).state.isBound = true → (t.frame f).suspect = none := fun f hf => by
    rw [(hst f).2.2.2]
    rw [hfr] at hf
    rcases hca f with ⟨-, hs⟩ | ⟨hf', -⟩
    · obtain ⟨i, hi⟩ := isBound_iff.1 hf
      exact absurd (hs.symm.trans hi) (hb.bound f i)
    · exact notSuspect h.suspect (by simp [hf', FrameState.isBound]) (by simp [hf'])
  have hret : ∀ f, (t.frame f).state = .retired ↔ (s.frame f).state = .retired := fun f => by
    rw [hfr]
    rcases hca f with ⟨-, hf⟩ | ⟨hf', ⟨i, -, -, hf⟩ | ⟨-, hf⟩⟩
    · simp [hf]
    · simp [hf, hf']
    · simp [hf, hf']
  have hbu : SameBringUp s t := ⟨by rw [e], by rw [e], by rw [e], by rw [e], by rw [e],
    by rw [e]; simp [hp], by rw [e]; simp [hp], fun f => (hst f).1, fun f => (hst f).2.1⟩
  refine laws_of_settled (by rw [e]) ?_ ?_ (fun f => (hst f).2.2.1) (by rw [e]; exact hb.broken)
    (by rw [e]; exact hb.poison) ?_ ⟨hq ▸ hnd.sublist (List.drop_sublist _ _), fun f => ?_, ?_⟩ ?_ ?_
    (hbu.presenceLaw h.presence) (hbu.walkLaw h.walk) (hbu.sessionLaw h.session)
  · intro c; have := hb.chans c; rw [e]; exact this
  · intro i
    rw [hsl]
    unfold State.adoptSlice
    split
    · split
      · rfl
      · rw [hb.slices]; rfl
    · rw [hb.slices]; rfl
  · intro i f
    rw [hsl, adoptSlice_loc hb.slices, hfr]
    rcases hca f with ⟨hf', hf⟩ | ⟨hf', ⟨j, hj, hlt, hf⟩ | ⟨hle, hf⟩⟩
    · simp [hf', hf, hb.bound f i]
    · simp only [hf', hj, hf, FrameState.bound.injEq, true_and, Fin.ext_iff]; omega
    · simp only [hf', hf]
      exact iff_of_false (fun hc => by omega) nofun
  · rw [hq, hfr, mem_drop_iff_idxOf hnd, mem_freeFrames]
    rcases hca f with ⟨hf', hf⟩ | ⟨hf', ⟨j, hj, hlt, hf⟩ | ⟨hle, hf⟩⟩
    · simp [hf', hf, hns f]
    · simp [hf, hj]; omega
    · simp [hf', hf, hle]
  · intro hne; exact absurd (by rw [e]) hne
  · rw [retireLaw_iff]
    have hr : t.retireQ = [] := by rw [e]; exact hb.retireQ
    rw [hr]
    exact ⟨List.nodup_nil, Nat.zero_le _, nofun, fun f ⟨h1, h2⟩ => by simp [hsus f h1] at h2⟩
  · intro f
    rw [hret, (hst f).2.2.2]
    refine ⟨fun hs => ?_, (h.suspect f).2⟩
    rcases (h.suspect f).1 hs with hx | hx
    · obtain ⟨i, hi⟩ := isBound_iff.1 hx; exact absurd hi (hb.bound f i)
    · exact .inr hx
end Sys2Proof.Machine.MapProofs
end

section
namespace Sys2Proof.Machine.MapProofs
open Sys2Proof Sys2Proof.Machine Sys2Proof.Machine.Laws

/-! ## The import commit -/

theorem mapLaws_bump {s : State} (h : MapLaws s) : MapLaws s.bump :=
  ⟨h.sliceFrame, h.sliceChan, h.target, h.spare, h.retire, h.suspect, h.phase, h.chain, h.poison,
    h.presence, h.walk, h.session⟩

theorem mapLaws_bumpIf {s : State} (h : MapLaws s) (b : Bool) : MapLaws (s.bumpIf b) := by
  cases b
  · exact h
  · exact mapLaws_bump h

/-- What R166's table makes of a frame that stood FREE or RETIRED or was ABSENT. -/
theorem importedFrame_facts {live : FrameRec} (img : ImgFrame)
    (hs : live.state = .absent ∨ live.state = .free ∨ live.state = .retired)
    (hc : live.suspect.isSome = true ↔ live.state = .retired) :
    ((importedFrame live img).state = .absent ↔ live.state = .absent) ∧
    (importedFrame live img).state ≠ .target ∧ (importedFrame live img).state ≠ .untested ∧
    (∀ i, (importedFrame live img).state = .bound i ↔
      live.state = .free ∧ img.state = .bound ∧ img.bound = some i) ∧
    ((importedFrame live img).state = .spare ↔
      live.state = .free ∧ img.state = .spare ∧ img.suspect = none) ∧
    ((importedFrame live img).suspect.isSome = true →
      (importedFrame live img).state.isBound = true ∨ (importedFrame live img).state = .retired) ∧
    ((importedFrame live img).state = .retired → (importedFrame live img).suspect.isSome = true) := by
  rcases hs with hs | hs | hs
  · simp_all [importedFrame]
  · obtain ⟨ls, lc, ln, lu⟩ := live
    obtain ⟨is, ib, ip, ic, in_, iu⟩ := img
    obtain rfl : ls = .free := hs
    obtain rfl : lc = none := by simpa using hc
    cases is <;> cases ic <;> cases ib <;> simp [importedFrame, importedState, FrameState.isBound]
  · have : live.suspect.isSome = true := hc.2 hs
    simp [importedFrame, importedState, hs, this]

/-- The conditions of R164, frame by frame and slice by slice, that the commit rests on. -/
structure Consistent (t : ImportSession) : Prop where
  bound : ∀ f, (t.frame f).state = .bound → (t.frame f).bound.isSome = true
  spare : ∀ f, (t.frame f).state = .spare → (t.frame f).sparePos.isSome = true
  once : ∀ f g i, (t.frame f).state = .bound → (t.frame f).bound = some i →
    (t.frame g).state = .bound → (t.frame g).bound = some i → f = g
  place : ∀ f g p, (t.frame f).state = .spare → (t.frame f).sparePos = some p →
    (t.frame g).state = .spare → (t.frame g).sparePos = some p → f = g
  mapped : ∀ i, (t.slice i).mapped = true ↔
    ∃ f, (t.frame f).state = .bound ∧ (t.frame f).bound = some i

theorem Consistent.of_none {t : ImportSession} (h : t.inconsistent = none) : Consistent t := by
  have hfs : (∀ f, t.badFrame f = false) ∧ ∀ i, t.badSlice i = false := by
    unfold ImportSession.inconsistent at h
    split at h
    · cases h
    · split at h
      · cases h
      · next hf => exact ⟨by simpa using hf, by simpa using h⟩
  obtain ⟨hf, hs⟩ := hfs
  simp only [ImportSession.badFrame, Bool.or_eq_false_iff, and_assoc] at hf
  refine ⟨fun f he => ?_, fun f he => ?_, fun f g i hf1 hf2 hg1 hg2 => ?_,
    fun f g p hf1 hf2 hg1 hg2 => ?_, fun i => ?_⟩
  · have := (hf f).1; simpa [he] using this
  · have := (hf f).2.1; simpa [he] using this
  · have := (hf f).2.2.2.2.1
    by_contra hne
    simp only [ImportSession.boundTwice, hf1, hf2, List.any_eq_false, List.mem_finRange,
      forall_const] at this
    have := this g
    simp [ImgFrame.binds, hg1, hg2, Ne.symm hne] at this
  · have := (hf f).2.2.2.2.2
    by_contra hne
    simp only [ImportSession.badSparePos, hf1, hf2, Bool.or_eq_false_iff, List.any_eq_false,
      List.mem_finRange, forall_const] at this
    have := this.2 g
    simp [hg1, hg2, Ne.symm hne] at this
  · have := hs i
    rw [ImportSession.badSlice, bne_eq_false_iff_eq] at this
    rw [this]
    simp [ImgFrame.binds]

theorem importedSlice_source {s : State} {t : ImportSession} (hc : Consistent t) {i : SliceNo}
    (hu : (s.slice i).loc = .unmapped) (f : FrameNo) :
    (s.importedSlice t i).loc.source = some f ↔
      (t.frame f).state = .bound ∧ (t.frame f).bound = some i := by
  have hm := hc.mapped i
  unfold State.importedSlice
  dsimp only
  cases hmi : (t.slice i).mapped with
  | false =>
    rw [if_neg (by simp), hu]
    exact iff_of_false nofun fun hf => by simpa [hmi] using hm.2 ⟨f, hf⟩
  | true =>
    obtain ⟨g, hg1, hg2⟩ := hm.1 hmi
    rw [if_pos rfl]
    cases hfind : (List.finRange 64).find? fun f => (t.frame f).binds i with
    | none =>
      have := find_finRange_none.1 hfind g
      simp [ImgFrame.binds, hg1, hg2] at this
    | some k =>
      obtain ⟨hk1, hk2⟩ : (t.frame k).state = .bound ∧ (t.frame k).bound = some i := by
        simpa [ImgFrame.binds] using (lowest_of_find_finRange hfind).1
      simp only [SliceLoc.source, Option.some.injEq]
      exact ⟨fun e => e ▸ ⟨hk1, hk2⟩, fun hf => hc.once k f i hk1 hk2 hf.1 hf.2⟩

theorem importedSpares_nodup (s : State) (t : ImportSession) : (s.importedSpares t).Nodup := by
  refine List.Nodup.filterMap (fun p q f hp hq => ?_) (List.nodup_finRange 64)
  have h1 := (lowest_of_find_finRange hp).1
  have h2 := (lowest_of_find_finRange hq).1
  simp only [Bool.and_eq_true, beq_iff_eq] at h1 h2
  exact Option.some.inj (h1.1.1.symm.trans h2.1.1)

theorem mem_importedSpares {s : State} {t : ImportSession} (hc : Consistent t)
    (hs : ∀ f, (importedFrame (s.frame f) (t.frame f)).state = .spare →
      (s.frame f).state = .free ∧ (t.frame f).state = .spare) {f : FrameNo} :
    f ∈ s.importedSpares t ↔ (importedFrame (s.frame f) (t.frame f)).state = .spare := by
  unfold State.importedSpares
  rw [List.mem_filterMap]
  constructor
  · rintro ⟨p, -, hp⟩
    have := (lowest_of_find_finRange hp).1
    simp only [Bool.and_eq_true, beq_iff_eq] at this
    exact this.2
  · intro hf
    obtain ⟨hfree, himg⟩ := hs f hf
    obtain ⟨p, hp⟩ := Option.isSome_iff_exists.1 (hc.spare f himg)
    refine ⟨p, List.mem_finRange p, ?_⟩
    cases hfind : (List.finRange 64).find? fun f => (t.frame f).sparePos == some p &&
        (s.frame f).state == .free && (importedFrame (s.frame f) (t.frame f)).state == .spare with
    | none =>
      have := find_finRange_none.1 hfind f
      simp [hp, hfree, hf] at this
    | some g =>
      have hg := (lowest_of_find_finRange hfind).1
      simp only [Bool.and_eq_true, beq_iff_eq] at hg
      rw [hc.place f g p himg hp (hs g hg.2).2 hg.1.1]

/-- R167's retire queue is lawful. -/
theorem importedRetires_law (s : State) (t : ImportSession) :
    (s.importedRetires t).Nodup ∧ (s.importedRetires t).length ≤ Config.retireCapacity ∧
    (∀ f ∈ s.importedRetires t, (importedFrame (s.frame f) (t.frame f)).state.isBound = true ∧
      (importedFrame (s.frame f) (t.frame f)).suspect.isSome = true) ∧
    ∀ f, ((importedFrame (s.frame f) (t.frame f)).state.isBound = true ∧
        (importedFrame (s.frame f) (t.frame f)).suspect.isSome = true) → f ∉ s.importedRetires t →
      (s.importedRetires t).length = Config.retireCapacity := by
  unfold State.importedRetires
  dsimp only
  generalize hl : (List.finRange 64).filter (fun f => _) = l
  have hm : ∀ f, f ∈ l ↔ (importedFrame (s.frame f) (t.frame f)).state.isBound = true ∧
      (importedFrame (s.frame f) (t.frame f)).suspect.isSome = true := by
    intro f; rw [← hl, List.mem_filter]; simp
  have hnd : l.Nodup := hl ▸ (List.nodup_finRange 64).filter _
  refine ⟨hnd.sublist (List.take_sublist _ _), List.length_take_le _ _,
    fun f hf => (hm f).1 (List.mem_of_mem_take hf), fun f hf hn => ?_⟩
  rw [List.length_take]
  refine min_eq_left (not_lt.1 fun hlt => hn ?_)
  rw [List.take_of_length_le hlt.le]
  exact (hm f).2 hf

theorem importTables_laws {s : State} {t : ImportSession} (h : MapLaws s) (hp : s.phase = .importing)
    (hpow : s.powered = true) (hi : t.inconsistent = none) (hd : s.disagrees t = none) :
    MapLaws (s.importTables t) := by
  have hb := Blank.of_laws h (by simp [hp])
  have hq0 : s.spareQ = [] := h.spare.2.2 (by simp [hp])
  have hc := Consistent.of_none hi
  have hwf : s.walk.running = false := by
    rw [Bool.eq_false_iff]; intro hr; have := (h.walk.1 hpow).1 hr; simp [hp] at this
  have hwn : s.walk.frame = none := by
    have := h.walk.2.1; rw [hwf] at this; simpa using this.symm
  have hlive : ∀ f, (s.frame f).state = .absent ∨ (s.frame f).state = .free ∨
      (s.frame f).state = .retired := fun f => by
    have h1 := hb.bound f
    have h2 := hb.target f
    have h3 : (s.frame f).state ≠ .spare := fun e => by
      have := (h.spare.2.1 f).2 e; simp [hq0] at this
    have h4 : (s.frame f).state ≠ .untested := fun e => by
      obtain ⟨g, hg, -⟩ := h.walk.2.2.2 f e; simp [hwn] at hg
    cases hs : (s.frame f).state <;> simp_all
  have hcause : ∀ f, (s.frame f).suspect.isSome = true ↔ (s.frame f).state = .retired := fun f => by
    refine ⟨fun e => ((h.suspect f).1 e).resolve_left fun hx => ?_, (h.suspect f).2⟩
    obtain ⟨i, hi⟩ := isBound_iff.1 hx; exact hb.bound f i hi
  have hagree : ∀ f, (t.frame f).state = .bound → (s.frame f).state = .free := fun f hf => by
    have := find_finRange_none.1 (Option.map_eq_none_iff.1 hd) f
    rcases hlive f with hl | hl | hl
    · simp [hf, hl] at this
    · exact hl
    · simp [hf, hl] at this
  have hfr : ∀ f, (s.importTables t).frame f = importedFrame (s.frame f) (t.frame f) := fun f => by
    simp [State.importTables, State.frame]
  have hsl : ∀ i, (s.importTables t).slice i = s.importedSlice t i := fun i => by
    simp [State.importTables, State.slice]
  have hfacts := fun f => importedFrame_facts (t.frame f) (hlive f) (hcause f)
  have hq : (s.importTables t).spareQ = s.importedSpares t := by simp [State.importTables, hq0]
  have hbound : ∀ f i, (importedFrame (s.frame f) (t.frame f)).state = .bound i ↔
      (t.frame f).state = .bound ∧ (t.frame f).bound = some i := fun f i => by
    rw [(hfacts f).2.2.2.1]
    exact ⟨fun ⟨_, h2⟩ => h2, fun h2 => ⟨hagree f h2.1, h2⟩⟩
  have hr : (s.importTables t).retireQ = s.importedRetires t := rfl
  have e : s.importTables t = { s with
      slices := (s.importTables t).slices, frames := (s.importTables t).frames
      spareQ := (s.importTables t).spareQ, retireQ := (s.importTables t).retireQ
      phase := .active, importS := none } := rfl
  have hmq := fun f => mem_importedSpares hc (s := s) (fun f hs => by
    have := ((hfacts f).2.2.2.2.1).1 hs; exact ⟨this.1, this.2.1⟩) (f := f)
  have hmn := importedSpares_nodup s t
  have hrl : retireLaw (s.importTables t) := by
    rw [retireLaw_iff, hr]
    simp only [State.suspectBound, hfr]
    exact importedRetires_law s t
  have hsf : sliceFrameLaw (s.importTables t) := fun i f => by
    rw [hsl, hfr, hbound]
    exact importedSlice_source hc (hb.slices i) f
  have hnc : ∀ i, (s.importedSlice t i).loc.channel = none := fun i => by
    have := hb.slices i
    unfold State.importedSlice
    dsimp only
    split
    · split
      · rfl
      · rw [this]; rfl
    · rw [this]; rfl
  generalize s.importTables t = u at *
  have hph : u.phase = .active := by rw [e]
  refine laws_of_settled hph ?_ (fun i => hsl i ▸ hnc i) ?_ ?_ ?_ hsf ⟨hq ▸ hmn, ?_, absurd hph⟩
    hrl ?_ ?_ ⟨fun _ => ?_, ?_, ?_, ?_⟩ ?_
  · intro c; have := hb.chans c; rw [e]; exact this
  · intro f; rw [hfr]; exact (hfacts f).2.1
  · rw [e]; exact hb.broken
  · rw [e]; exact hb.poison
  · intro f; rw [hq, hfr]; exact hmq f
  · intro f; rw [hfr]; exact (hfacts f).2.2.2.2.2
  · intro f; have := h.presence f; rw [hfr, (hfacts f).1, e]; exact this
  · rw [hph, e]; simp [hwf]
  · rw [e]; exact h.walk.2.1
  · intro f hf; rw [e] at hf; simp [hwn] at hf
  · intro f hf; rw [hfr] at hf; exact absurd hf (hfacts f).2.2.1
  · rw [sessionLaw, hph, e]; simp
end Sys2Proof.Machine.MapProofs
end

section
namespace Sys2Proof.Machine.MapProofs
open Sys2Proof Sys2Proof.Machine Sys2Proof.Machine.Laws

/-! ## Import sessions -/

/-- With no slice mapped the phase may go between the phases outside ACTIVE and INVENTORY, as the import
session does. -/
theorem phase_laws {s t : State} {ph : Phase} {imp : Option ImportSession} (h : MapLaws s)
    (hp : s.phase = .staged ∨ s.phase = .importing) (hph : ph = .staged ∨ ph = .importing)
    (himp : ph = .importing ↔ imp.isSome = true)
    (e : SameMap { s with phase := ph, importS := imp } t) : MapLaws t := by
  have hna : s.phase ≠ .active := by rcases hp with hp | hp <;> simp [hp]
  have hni : (s.phase = .inventory) = (ph = .inventory) := by
    rcases hp with hp | hp <;> rcases hph with hph | hph <;> simp [hp, hph]
  refine e.laws ⟨h.sliceFrame, h.sliceChan, h.target,
    ⟨h.spare.1, h.spare.2.1, fun _ => h.spare.2.2 hna⟩, h.retire, h.suspect, fun _ => h.phase hna, h.chain,
    h.poison, h.presence,
    ⟨fun hpow => ?_, h.walk.2⟩, himp⟩
  change s.walk.running = true ↔ ph = .inventory
  rw [← hni]
  exact h.walk.1 hpow

theorem endImport_sameMap (s : State) :
    SameMap { s with phase := .staged, importS := none } s.endImport := by
  constructor <;> intros <;> rfl

theorem endImport_laws {s : State} (h : MapLaws s) (hp : s.phase = .importing) :
    MapLaws s.endImport :=
  phase_laws h (.inr hp) (.inl rfl) (by simp) (endImport_sameMap s)

theorem raiseIf_sameMap (s : State) (b : Bool) (f : Flag) : SameMap s (s.raiseIf b f) := by
  cases b <;> constructor <;> intros <;> rfl

theorem startScrubber_sameMap (s : State) : SameMap s s.startScrubber := by
  constructor <;> intros <;> rfl

theorem stopScrubber_sameMap (s : State) : SameMap s s.stopScrubber := by
  constructor <;> intros <;> rfl

/-- The commit is its tables, but for flags, timer and generation. -/
theorem importCommit_eq (s : State) (t : ImportSession) :
    ∃ u, SameMap (s.importTables t) u ∧
      s.importCommit t = u.bumpIf (s.mapChanged (s.importTables t)) :=
  ⟨_, ((startScrubber_sameMap _).trans (raiseIf_sameMap _ _ _)).trans (raiseIf_sameMap _ _ _), rfl⟩

theorem importCommit_laws {s : State} {t : ImportSession} (h : MapLaws s) (hp : s.phase = .importing)
    (hpow : s.powered = true) (hi : t.inconsistent = none) (hd : s.disagrees t = none) :
    MapLaws (s.importCommit t) := by
  obtain ⟨u, hu, e⟩ := importCommit_eq s t
  rw [e]
  exact mapLaws_bumpIf (hu.laws (importTables_laws h hp hpow hi hd)) _

/-! ## Power -/

theorem powerOn_slice (codes : PresenceCodes) (p : List Instr) (w : Bool) (m : Modules) (i : SliceNo) :
    (State.powerOn codes p w m).slice i = { loc := .unmapped, protect := false, domain := 0xF#4 } := by
  simp [State.powerOn, State.slice]

theorem powerOn_frame (codes : PresenceCodes) (p : List Instr) (w : Bool) (m : Modules) (f : FrameNo) :
    (State.powerOn codes p w m).frame f =
      { state := if presentIn codes f then .untested else .absent
        suspect := none, corrected := 0, uncorrectable := 0 } := by
  simp [State.powerOn, State.frame]

theorem powerOn_chan (codes : PresenceCodes) (p : List Instr) (w : Bool) (m : Modules) (c : ChanNo) :
    (State.powerOn codes p w m).chan c = { state := .idle, last := .none } := by
  simp [State.powerOn, State.chan]

theorem powerOn_laws (codes : PresenceCodes) (p : List Instr) (w : Bool) (m : Modules) :
    MapLaws (State.powerOn codes p w m) := by
  have hfr := powerOn_frame codes p w m
  have hst : ∀ f, (State.powerOn codes p w m).frame f = _ := hfr
  have hwk : (State.powerOn codes p w m).walk.frame = firstPresent codes := rfl
  have hwr : (State.powerOn codes p w m).walk.running = (firstPresent codes).isSome := rfl
  have hph : (State.powerOn codes p w m).phase =
    if (firstPresent codes).isNone then .staged else .inventory := rfl
  have hpr : (State.powerOn codes p w m).presence = codes := rfl
  refine Blank.laws ⟨fun i => by rw [powerOn_slice], fun f i => ?_, fun f => ?_,
      fun c => by rw [powerOn_chan], rfl, rfl, rfl⟩
    ⟨List.nodup_nil, fun f => iff_of_false nofun ?_, fun _ => rfl⟩ (fun f => ?_) (fun f => ?_)
    ⟨fun _ => ?_, hwr, fun f hf => ?_, fun g hg => ?_⟩ ?_
  · rw [hfr]; dsimp only; split <;> simp
  · rw [hfr]; dsimp only; split <;> simp
  · rw [hfr]; dsimp only; split <;> simp
  · rw [hfr]; dsimp only; split <;> simp
  · rw [hfr, hpr]; cases presentIn codes f <;> simp
  · rw [hwr, hph]; cases firstPresent codes <;> simp
  · rw [hwk] at hf
    rw [hfr, (lowest_of_find_finRange hf).1]; rfl
  · rw [hfr] at hg
    have hgp : presentIn codes g = true := by by_contra hn; simp [hn] at hg
    rw [hwk]
    cases hf : firstPresent codes with
    | none => rw [find_finRange_none.1 hf g] at hgp; cases hgp
    | some f =>
      refine ⟨f, rfl, not_lt.1 fun hlt => ?_⟩
      rw [(lowest_of_find_finRange hf).2 g hlt] at hgp; cases hgp
  · rw [sessionLaw, hph]
    have : (State.powerOn codes p w m).importS = none := rfl
    rw [this]
    cases firstPresent codes <;> simp

theorem powerOff_laws (s : State) : MapLaws s.powerOff := by
  have h := powerOn_laws (Vector.replicate 4 0) s.pending s.warmPin s.modules
  exact ⟨h.sliceFrame, h.sliceChan, h.target, ⟨List.nodup_nil, h.spare.2.1, fun _ => rfl⟩, h.retire,
    h.suspect, fun _ i => congrArg SliceRec.loc
      (powerOn_slice (Vector.replicate 4 0) s.pending s.warmPin s.modules i),
    h.chain, h.poison, h.presence, ⟨nofun, h.walk.2⟩, iff_of_false nofun nofun⟩

/-! ## Progress of a copy -/

/-- A RUNNING channel's cursor and count of lines poisoned are the laws' business only by the bound on
the cursor. -/
theorem runProgress_still {s : State} {c : ChanNo} {m n : Migration} {f : FrameNo}
    (hrun : (s.chan c).state = .running m f) (hs : n.slice = m.slice) (ht : n.target = m.target)
    (hcur : n.cursor ≤ Config.linesPerFrame) :
    Still s (s.setChan c { s.chan c with state := .running n f }) := by
  refine ⟨fun h => ?_, rfl, fun _ => rfl, fun _ => rfl, rfl, rfl, rfl, rfl⟩
  have hch : ∀ d, (s.setChan c { s.chan c with state := .running n f }).chan d = _ :=
    setChan_chan s c (r := _)
  have hmig : ∀ d, ((s.setChan c { s.chan c with state := .running n f }).chan d).state.migration.map
      (·.slice) = (s.chan d).state.migration.map (·.slice) ∧
      ((s.setChan c { s.chan c with state := .running n f }).chan d).state.migration.map
      (·.target) = (s.chan d).state.migration.map (·.target) := fun d => by
    rw [hch]; split
    · next e => subst e; rw [hrun]; exact ⟨congrArg some hs, congrArg some ht⟩
    · exact ⟨rfl, rfl⟩
  obtain ⟨hrn, harm, hnd, hbrk⟩ := h.chain
  have hid : ∀ d, ((s.setChan c { s.chan c with state := .running n f }).chan d).state ≠ .idle ↔
      (s.chan d).state ≠ .idle := fun d => by
    rw [hch]; split
    · next e => subst e; simp [hrun]
    · rfl
  refine { h with
    sliceChan := sliceChan_congr h.sliceChan (fun _ => rfl) (fun d => (hmig d).1)
    target := target_congr h.target (fun _ => .rfl) (fun d => (hmig d).2)
    chain := ⟨fun d k g hd => ?_, fun d k hd => ?_, hnd, fun d hd => ?_⟩ }
  · rw [hch] at hd
    split at hd
    · obtain ⟨rfl, rfl⟩ : n = k ∧ f = g := by simpa using hd
      exact ⟨by rw [hs]; exact (hrn c m f hrun).1, hcur⟩
    · exact hrn d k g hd
  · rw [hch] at hd
    split at hd
    · cases hd
    · obtain ⟨h0, j, hj, hjd, hji⟩ := harm d k hd
      exact ⟨h0, j, hj, hjd, fun hb => (hid j).2 (hji hb)⟩
  · obtain ⟨k, hk⟩ := hbrk d hd
    refine ⟨k, ?_⟩
    rw [hch, if_neg (by rintro rfl; rw [hrun] at hk; cases hk)]
    exact hk

end Sys2Proof.Machine.MapProofs
end

section
namespace Sys2Proof.Machine.MapProofs
open Sys2Proof Sys2Proof.Machine Sys2Proof.Machine.Laws

/-! ## The warm restart -/

section
variable {s : State} {c : ChanNo} {m : Migration} {source : FrameNo} (cause : LastOutcome)
  (hm : (s.chan c).state.migration = some m) (hl : (s.slice m.slice).loc = .migrating source c)
include hm hl

theorem abortRecords_slice (j : SliceNo) : (s.abortRecords c cause).slice j =
    if m.slice = j then { s.slice m.slice with loc := .mapped source } else s.slice j :=
  slice_set (by rw [abortRecords_eq cause hm hl]; rfl) j

theorem abortRecords_frameRec (g : FrameNo) : (s.abortRecords c cause).frame g =
    if m.target = g then { s.frame m.target with state := returnedState m cause } else s.frame g :=
  frame_set (by rw [abortRecords_eq cause hm hl]; rfl) g

theorem abortRecords_chan (d : ChanNo) : (s.abortRecords c cause).chan d =
    if c = d then { state := .idle, last := cause } else s.chan d :=
  chan_set (by rw [abortRecords_eq cause hm hl]; rfl) d

theorem abortRecords_spareQ : (s.abortRecords c cause).spareQ =
    if returnedState m cause = .spare then s.spareQ ++ [m.target] else s.spareQ := by
  rw [abortRecords_eq cause hm hl]; rfl

theorem abortRecords_generation : (s.abortRecords c cause).generation = s.generation + 1 := by
  rw [abortRecords_eq cause hm hl]; rfl

end

theorem abortRecords_idle {s : State} {c : ChanNo} {cause : LastOutcome}
    (h : (s.chan c).state = .idle) : s.abortRecords c cause = s := by
  simp [State.abortRecords, h, ChanState.migration]

/-- A slice's place once the channels of a list have aborted (R63). -/
def resetLoc (cs : List ChanNo) : SliceLoc → SliceLoc
  | .migrating f c => if c ∈ cs then .mapped f else .migrating f c
  | l => l

/-- The target that an abort of a channel puts at the tail of the spare queue (R64). -/
def sparedTarget (r : Channel) : Option FrameNo :=
  match r.state.migration with
  | some m => if m.origin = .spare then some m.target else none
  | none => none

/-- What the aborts RESET of the channels of a list leave (R69). -/
structure ResetBy (cs : List ChanNo) (s t : State) : Prop where
  laws : MapLaws t
  slices : ∀ i, t.slice i = { s.slice i with loc := resetLoc cs (s.slice i).loc }
  chans : ∀ c, t.chan c =
    if c ∈ cs ∧ (s.chan c).state ≠ .idle then { state := .idle, last := .reset } else s.chan c
  frames : ∀ f, (s.frame f).state ≠ .target → t.frame f = s.frame f
  targets : ∀ c m, (s.chan c).state.migration = some m → t.frame m.target =
    if c ∈ cs then { s.frame m.target with state := if m.origin = .spare then .spare else .free }
    else s.frame m.target
  spareQ : t.spareQ = s.spareQ ++ cs.filterMap fun c => sparedTarget (s.chan c)
  generation : t.generation = s.generation +
    BitVec.ofNat 16 (cs.countP fun c => decide ((s.chan c).state ≠ .idle))
  rest : t = { s with
    slices := t.slices, generation := t.generation, frames := t.frames, spareQ := t.spareQ
    chans := t.chans, broken := t.broken, flags := t.flags }

theorem ResetBy.nil {s : State} (h : MapLaws s) : ResetBy [] s s where
  laws := h
  slices i := by cases hl : s.slice i with | mk l p d => cases l <;> simp [resetLoc]
  chans c := by simp
  frames _ _ := rfl
  targets c m _ := by simp
  spareQ := by simp
  generation := by simp
  rest := rfl

theorem ResetBy.cons {s t : State} {c : ChanNo} {cs : List ChanNo} (h : MapLaws s) (hc : c ∉ cs)
    (r : ResetBy cs (s.abortRecords c .reset) t) : ResetBy (c :: cs) s t := by
  cases hm : (s.chan c).state.migration with
  | none =>
    have hi := migration_none.1 hm
    rw [abortRecords_idle hi] at r
    have hlc : ∀ i, (s.slice i).loc.channel ≠ some c := fun i e => by
      have := (h.sliceChan i c).1 e; rw [hm] at this; cases this
    refine ⟨r.laws, fun i => ?_, fun d => ?_, r.frames, fun d n hd => ?_, ?_, ?_, r.rest⟩
    · rw [r.slices]
      have := hlc i
      cases hl : (s.slice i).loc <;> simp_all [resetLoc, SliceLoc.channel]
    · rw [r.chans]
      by_cases hd : d = c
      · subst hd; simp [hi, hc]
      · simp [hd]
    · rw [r.targets d n hd]
      have : d ≠ c := by rintro rfl; rw [hm] at hd; cases hd
      simp [this]
    · rw [r.spareQ]; simp [sparedTarget, hm]
    · rw [r.generation]; simp [hi]
  | some m =>
    obtain ⟨source, hl, hfb⟩ := migrating_of h hm
    have hni : (s.chan c).state ≠ .idle := fun e => by rw [e] at hm; cases hm
    have hsl := abortRecords_slice .reset hm hl
    have hfr := abortRecords_frameRec .reset hm hl
    have hch := abortRecords_chan .reset hm hl
    have htg := target_of h hm
    have hret : returnedState m .reset = if m.origin = .spare then .spare else .free := by
      unfold returnedState; cases m.origin <;> simp
    have hother : ∀ d, d ∈ cs → (s.abortRecords c .reset).chan d = s.chan d := fun d hd => by
      rw [hch, if_neg (by rintro rfl; exact hc hd)]
    refine ⟨r.laws, fun i => ?_, fun d => ?_, fun f hf => ?_, fun d n hd => ?_, ?_, ?_, ?_⟩
    · rw [r.slices, hsl]
      by_cases hi : m.slice = i
      · subst hi; simp [hl, resetLoc]
      · have : (s.slice i).loc.channel ≠ some c := fun e => by
          have := (h.sliceChan i c).1 e; rw [hm] at this; exact hi (Option.some.inj this)
        rw [if_neg hi]
        cases hl : (s.slice i).loc <;> simp_all [resetLoc, SliceLoc.channel]
    · rw [r.chans, hch]
      by_cases hd : c = d
      · subst hd; simp [hni]
      · simp [hd, Ne.symm hd]
    · have hne : m.target ≠ f := by rintro rfl; exact hf htg
      rw [r.frames f (by rw [hfr, if_neg hne]; exact hf), hfr, if_neg hne]
    · by_cases hcd : c = d
      · subst hcd
        obtain rfl : m = n := by rw [hm] at hd; exact Option.some.inj hd
        have hne : ((s.abortRecords c .reset).frame m.target).state ≠ .target := by
          rw [hfr, if_pos rfl, hret]; dsimp only; split <;> simp
        rw [r.frames _ hne, hfr, if_pos rfl, hret]
        simp
      · have hd' : ((s.abortRecords c .reset).chan d).state.migration = some n := by
          rw [hch, if_neg hcd]; exact hd
        rw [r.targets d n hd', hfr, if_neg (migrations_apart h hm hd hcd).2]
        simp [Ne.symm hcd]
    · rw [r.spareQ, abortRecords_spareQ .reset hm hl, hret]
      have hf : cs.filterMap (fun c_1 => sparedTarget ((s.abortRecords c .reset).chan c_1)) =
          cs.filterMap (fun c => sparedTarget (s.chan c)) :=
        List.filterMap_congr fun d hd => by rw [hother d hd]
      rw [hf, List.filterMap_cons]
      by_cases ho : m.origin = .spare <;> simp [sparedTarget, hm, ho]
    · rw [r.generation, abortRecords_generation .reset hm hl]
      have hf : cs.countP (fun d => decide (((s.abortRecords c .reset).chan d).state ≠ .idle)) =
          cs.countP (fun d => decide ((s.chan d).state ≠ .idle)) :=
        List.countP_congr fun d hd => by rw [hother d hd]
      rw [hf, List.countP_cons_of_pos (by simpa using hni), BitVec.add_assoc]
      congr 1
      rw [Nat.add_comm, BitVec.ofNat_add]; rfl
    · have := r.rest
      rw [abortRecords_frame] at this
      exact this

theorem resetFold {cs : List ChanNo} (hcs : cs.Nodup) {s : State} (h : MapLaws s) :
    ResetBy cs s (cs.foldl (fun t c => t.abortRecords c .reset) s) := by
  induction cs generalizing s with
  | nil => exact ResetBy.nil h
  | cons c cs ih =>
    obtain ⟨hc, hnd⟩ := List.nodup_cons.1 hcs
    exact ResetBy.cons h hc (ih hnd (abortRecords_laws h (by simp)))

end Sys2Proof.Machine.MapProofs
end

section
namespace Sys2Proof.Machine.MapProofs
open Sys2Proof Sys2Proof.Machine Sys2Proof.Machine.Laws

/-! ## The warm restart as a step of the map -/

/-- The data port, the claim table and the arbiters at a warm restart, and the request taken. -/
def cutWork (s : State) : State :=
  { s with
    warmReq := s.warmReq - 1
    ports := s.ports.map Port.restart
    places := Vector.replicate 5 .empty
    reqOrder := []
    arbs := s.arbs.map Arbiter.restart }

/-- The command unit, the sessions, the phase and the flags at a warm restart. -/
def clearSessions (s : State) : State :=
  { s with
    phase := if s.phase = Phase.importing then Phase.staged else s.phase
    cmdQ := []
    rspQ := []
    exportS := none
    importS := none
    flags := Flag.warmStart.mask }

theorem restart_eq (s : State) :
    s.restart = (clearSessions (cutWork s).resetChannels).restartScrubber.restartWalk := rfl

theorem restartScrubber_sameMap (s : State) : SameMap s s.restartScrubber := by
  unfold State.restartScrubber
  dsimp only
  split <;> constructor <;> intros <;> rfl

theorem restartWalk_sameMap (s : State) : SameMap s s.restartWalk := by
  unfold State.restartWalk
  dsimp only
  split <;> constructor <;> intros <;> rfl

theorem resetChannels_resetBy {s : State} (h : MapLaws s) :
    ResetBy (List.finRange 4) s ((List.finRange 4).foldl (fun t c => t.abortRecords c .reset) s) :=
  resetFold (List.nodup_finRange 4) h

theorem ResetBy.idle {s t : State} (r : ResetBy (List.finRange 4) s t) (c : ChanNo) :
    (t.chan c).state = .idle := by
  rw [r.chans]
  by_cases hc : (s.chan c).state = .idle <;> simp [hc]

/-- With every channel IDLE nothing is left to follow, and the import session may end. -/
theorem clearSessions_laws {t : State} (h : MapLaws t) (hi : ∀ c, (t.chan c).state = .idle) :
    MapLaws (clearSessions { t with broken := [] }) := by
  have hph : (clearSessions { t with broken := [] }).phase =
    if t.phase = Phase.importing then Phase.staged else t.phase := rfl
  have hne : (clearSessions { t with broken := [] }).phase ≠ .active → t.phase ≠ .active := by
    rw [hph]; split <;> simp_all
  have hinv : (clearSessions { t with broken := [] }).phase = .inventory ↔ t.phase = .inventory := by
    rw [hph]; split <;> simp_all
  refine ⟨h.sliceFrame, h.sliceChan, h.target, ⟨h.spare.1, h.spare.2.1, fun hp => h.spare.2.2 (hne hp)⟩,
    h.retire, h.suspect, fun hp => h.phase (hne hp), ⟨h.chain.1, fun c m hc => ?_, List.nodup_nil, nofun⟩,
    h.poison, h.presence, ⟨fun hp => (h.walk.1 hp).trans hinv.symm, h.walk.2⟩, ?_⟩
  · rw [show ((clearSessions { t with broken := [] }).chan c).state = .idle from hi c] at hc; cases hc
  · rw [sessionLaw, hph]
    refine iff_of_false ?_ nofun
    split <;> simp_all

theorem cutWork_sameMap (s : State) : SameMap s (cutWork s) := by
  constructor <;> intros <;> rfl

theorem restart_laws {s : State} (h : MapLaws s) : MapLaws s.restart := by
  have r := resetChannels_resetBy ((cutWork_sameMap s).laws h)
  rw [restart_eq]
  exact (restartWalk_sameMap _).laws ((restartScrubber_sameMap _).laws
    (clearSessions_laws r.laws r.idle))

theorem SameMap.lasting {s t : State} (e : SameMap s t) : Lasting s t := e.still.lasting

/-- A frame keeps its marks where it keeps its suspicion, and its state if that is ABSENT or RETIRED. -/
theorem Lasting.of_frames {s t : State} (hl : t.locked = s.locked)
    (hf : ∀ f, (∀ x, (s.frame f).suspect = some x → (t.frame f).suspect = some x) ∧
      ((s.frame f).state = .retired → (t.frame f).state = .retired) ∧
      ((s.frame f).state = .absent ↔ (t.frame f).state = .absent)) : Lasting s t :=
  ⟨fun f => (hf f).1, fun f => (hf f).2.1, fun f => (hf f).2.2, fun h => by rw [hl, h]⟩

theorem ResetBy.lasting {s t : State} {cs : List ChanNo} (h : MapLaws s) (r : ResetBy cs s t) :
    Lasting s t := by
  refine Lasting.of_frames (by rw [r.rest]) fun f => ?_
  by_cases hf : (s.frame f).state = .target
  · obtain ⟨c, hc⟩ := (h.target.1 f).1 hf
    obtain ⟨m, hm, rfl⟩ := Option.map_eq_some_iff.1 hc
    rw [r.targets c m hm]
    split
    · dsimp only
      refine ⟨fun _ => id, by simp [hf], ?_⟩
      rw [hf]; split <;> simp
    · exact ⟨fun _ => id, id, .rfl⟩
  · rw [r.frames f hf]
    exact ⟨fun _ => id, id, .rfl⟩

theorem resetLoc_unmapped (cs : List ChanNo) (l : SliceLoc) :
    resetLoc cs l = .unmapped ↔ l = .unmapped := by
  cases l <;> simp [resetLoc]
  split <;> simp

theorem ResetBy.attributes {s t : State} {cs : List ChanNo} (r : ResetBy cs s t) :
    KeepsAttributes s t := fun i => by
  rw [r.slices]; exact ⟨resetLoc_unmapped cs _, rfl, rfl⟩

theorem clearSessions_lasting {s u : State} (h : Lasting s u) :
    Lasting s (clearSessions { u with broken := [] }) :=
  ⟨h.suspect, h.retired, h.absent, h.locked⟩

theorem clearSessions_attributes {s u : State} (h : KeepsAttributes s u) :
    KeepsAttributes s (clearSessions { u with broken := [] }) := h

theorem clearSessions_phase (s u : State) (h : u.phase = s.phase) :
    (clearSessions { u with broken := [] }).phase =
      if s.phase = .importing then .staged else s.phase := by
  rw [← h]; rfl

theorem restart_step {s : State} (h : MapLaws s) : MapStep .warmRestart s s.restart := by
  have h0 := (cutWork_sameMap s).laws h
  have r := resetChannels_resetBy h0
  have e : SameMap (clearSessions (cutWork s).resetChannels) s.restart :=
    (restartScrubber_sameMap _).trans (restartWalk_sameMap _)
  have hph : s.restart.phase = if s.phase = .importing then .staged else s.phase := by
    rw [e.phase]
    exact clearSessions_phase s _ ((congrArg State.phase r.rest).trans rfl)
  have hl := clearSessions_lasting ((cutWork_sameMap s).lasting.trans (r.lasting h0))
  have ha := clearSessions_attributes ((cutWork_sameMap s).still.attributes.trans r.attributes)
  refine ⟨restart_laws h, fun hc => absurd rfl hc, fun hne => ?_, hl.trans e.lasting,
    fun _ _ => ha.trans e.still.attributes⟩
  have : s.phase = .importing := by by_contra hn; rw [hph, if_neg hn] at hne; exact hne rfl
  rw [hph, this]
  exact .inr (.inr (.inr (.inl ⟨rfl, rfl, by simp⟩)))

end Sys2Proof.Machine.MapProofs
end

section
namespace Sys2Proof.Machine.MapProofs
open Sys2Proof Sys2Proof.Machine Sys2Proof.Machine.Laws

/-! ## Each map operation as a step -/

theorem changed_of_slice {s t : State} (i : SliceNo)
    (h : (s.slice i).loc.kind ≠ (t.slice i).loc.kind) : s.mapChanged t = true :=
  (mapChanged_iff s t).2 (.inr (.inl ⟨i, .inl h⟩))

theorem changed_of_frame {s t : State} (f : FrameNo)
    (h : (s.frame f).state ≠ (t.frame f).state) : s.mapChanged t = true :=
  (mapChanged_iff s t).2 (.inr (.inr ⟨f, .inl h⟩))

theorem changed_of_suspect {s t : State} (f : FrameNo) (h : (s.frame f).suspect = none)
    (h' : (t.frame f).suspect.isSome = true) : s.mapChanged t = true :=
  (mapChanged_iff s t).2 (.inr (.inr ⟨f, .inr ⟨h, h'⟩⟩))

/-- A step that changes the map and advances the generation by one. -/
theorem MapStep.of_change {c : Instr} {s t : State} (hl : MapLaws t)
    (hg : t.generation = s.generation + 1) (hch : s.mapChanged t = true)
    (hp : t.phase ≠ s.phase → PhaseMove c s.phase t.phase) (hla : Lasting s t)
    (ha : s.locked = true → s.phase = .active → KeepsAttributes s t) : MapStep c s t :=
  ⟨hl, fun _ => by rw [hch, hg]; rfl, hp, hla, ha⟩

theorem KeepsAttributes.of_slices {s t : State} (h : t.slices = s.slices) : KeepsAttributes s t :=
  fun i => by rw [slice_congr h]; exact ⟨.rfl, rfl, rfl⟩

theorem Lasting.bump {s t : State} (h : Lasting s t) : Lasting s t.bump :=
  ⟨h.suspect, h.retired, h.absent, h.locked⟩

theorem bindSlice_step {s : State} {i : SliceNo} {f : FrameNo} {p : Bool} {d : DomainSet}
    (h : MapLaws s) (hi : (s.slice i).loc = .unmapped)
    (hf : (s.frame f).state = .free ∨ (s.frame f).state = .spare)
    (hp : s.phase = .staged ∨ s.phase = .active) (hl : s.locked = false) :
    MapStep .map s (s.bindSlice i f p d) := by
  have hfr := fun g => bindSlice_frame s i f g p d
  have hph : (s.bindSlice i f p d).phase = if s.phase = .staged then .active else s.phase := by
    rw [bindSlice_eq]
  refine .of_change (bindSlice_laws h hi hf hp) (by rw [bindSlice_eq]) (changed_of_slice i ?_) ?_
    (Lasting.of_frames (by rw [bindSlice_eq]) fun g => ?_) (fun e => by simp [hl] at e)
  · rw [bindSlice_slice, if_pos rfl, hi]; nofun
  · rcases hp with hp | hp
    · intro _; rw [hph, hp]; exact .inr (.inl ⟨rfl, rfl, .inr rfl⟩)
    · intro e; simp [hph, hp] at e
  · rw [hfr]; split
    · next e => subst e; rcases hf with hf | hf <;> simp [hf]
    · exact ⟨fun _ => id, id, .rfl⟩

theorem unbindSlice_step {s : State} {i : SliceNo} {f : FrameNo} (h : MapLaws s)
    (hi : (s.slice i).loc = .mapped f) (hl : s.locked = false) :
    MapStep .unmap s (s.unbindSlice i f) := by
  have hf : (s.frame f).state = .bound i := (h.sliceFrame i f).1 (by rw [hi]; rfl)
  refine .of_change (unbindSlice_laws h hi) (by rw [unbindSlice_eq]) (changed_of_slice i ?_)
    (fun e => absurd (by rw [unbindSlice_eq]) e)
    (Lasting.of_frames (by rw [unbindSlice_eq]) fun g => ?_) (fun e => by simp [hl] at e)
  · rw [unbindSlice_slice, if_pos rfl, hi]; nofun
  · rw [unbindSlice_frame]; split
    · next e => subst e; rw [hf]; dsimp only; split <;> simp
    · exact ⟨fun _ => id, id, .rfl⟩

theorem setAttr_step {s : State} (h : MapLaws s) (i : SliceNo) (p : Bool) (d : DomainSet)
    (hl : s.locked = false) :
    MapStep .setAttr s ((s.setSlice i { s.slice i with protect := p, domain := d }).bumpIf
      ((s.slice i).protect != p || (s.slice i).domain != d)) := by
  have hm : s.mapChanged (s.setSlice i { s.slice i with protect := p, domain := d }) =
      ((s.slice i).protect != p || (s.slice i).domain != d) := by
    rw [Bool.eq_iff_iff, mapChanged_iff]
    simp only [setSlice_spareQ, ne_eq, not_true_eq_false, setSlice_slice, false_or, setSlice_frame,
      Bool.or_eq_true, bne_iff_ne]
    constructor
    · rintro (⟨j, hj⟩ | ⟨f, hf⟩)
      · split at hj
        · next e => subst e; simpa using hj
        · simp at hj
      · simp [hf.1] at hf
    · intro hc; exact .inl ⟨i, .inr (by simpa using hc)⟩
  have hmt : s.mapChanged ((s.setSlice i { s.slice i with protect := p, domain := d }).bumpIf
      ((s.slice i).protect != p || (s.slice i).domain != d)) =
      ((s.slice i).protect != p || (s.slice i).domain != d) := by
    rw [← hm, bumpIf_eq]; rfl
  refine ⟨mapLaws_bumpIf (setAttr_laws h i p d) _, fun _ => ?_, fun e => ?_, ?_,
    fun e => by simp [hl] at e⟩
  · rw [hmt, bumpIf_eq]; rfl
  · rw [bumpIf_eq] at e; exact absurd rfl e
  · rw [bumpIf_eq]; exact ⟨fun _ _ => id, fun _ => id, fun _ => .rfl, id⟩

theorem markSuspect_lasting {s : State} {f : FrameNo} {c : Cause}
    (hf : (s.frame f).state.inUse = true) (hs : (s.frame f).suspect = none) :
    Lasting s (s.markSuspect f c) := by
  refine Lasting.of_frames (by rw [markSuspect_eq s f c hf]) fun g => ?_
  rw [markSuspect_frameRec s f g c hf]; split
  · next e => subst e; cases hst : (s.frame f).state <;> simp_all [FrameState.inUse, FrameState.isBound]
  · exact ⟨fun _ => id, id, .rfl⟩

theorem markSuspect_step {i : Instr} {s : State} {f : FrameNo} {c : Cause} (h : MapLaws s)
    (hf : (s.frame f).state.inUse = true) (hs : (s.frame f).suspect = none) :
    MapStep i s (s.markSuspect f c).bump := by
  refine .of_change (mapLaws_bump (markSuspect_laws h hf hs)) (by rw [markSuspect_eq s f c hf]; rfl)
    (changed_of_suspect f hs ?_) (fun e => absurd (by rw [markSuspect_eq s f c hf]; rfl) e)
    (markSuspect_lasting hf hs).bump fun _ _ =>
      KeepsAttributes.of_slices (by rw [markSuspect_eq s f c hf]; rfl)
  rw [bump_frame, markSuspect_frameRec s f f c hf, if_pos rfl]; rfl

/-- An outcome marks nothing, or a frame in use that is not suspect (R25, R26). -/
theorem countAndMark_cases (s : State) (f : FrameNo) (o : ReadOutcome) :
    (s.marks f o = false ∧ s.countAndMark f o = s.countOnly f o) ∨
    ∃ c, s.marks f o = true ∧ s.countAndMark f o = (s.countOnly f o).markSuspect f c ∧
      ((s.countOnly f o).frame f).state.inUse = true ∧ ((s.countOnly f o).frame f).suspect = none := by
  unfold State.marks State.countAndMark
  dsimp only
  cases hc : (s.countOnly f o).markingCause f o with
  | none => exact .inl ⟨rfl, rfl⟩
  | some c =>
    refine .inr ⟨c, rfl, rfl, ?_⟩
    unfold State.markingCause at hc
    split at hc
    · next h => simpa using h
    · cases hc

theorem takeOutcome_step {i : Instr} {s : State} (h : MapLaws s) (f : FrameNo) (o : ReadOutcome) :
    MapStep i s (s.takeOutcome f o) := by
  have e := sameMap_countOnly s f o
  unfold State.takeOutcome
  rcases countAndMark_cases s f o with ⟨hm, hc⟩ | ⟨c, hm, hc, hf, hs⟩
  · rw [hm, hc]; exact MapStep.of_still h e.still
  · rw [hm, hc]; exact e.still.then_step (markSuspect_step (e.laws h) hf hs)

theorem setUpMigration_step {i : Instr} {s : State} {sl : SliceNo} {f g : FrameNo} {c : ChanNo}
    {j : Option ChanNo} {b : InitiatedBy} (h : MapLaws s) (hm : MayMigrate s sl f g c j) :
    MapStep i s (s.setUpMigration sl f g c j b) := by
  refine .of_change (setUpMigration_laws h hm) (by rw [setUpMigration_eq]) (changed_of_slice sl ?_)
    (fun e => absurd (by rw [setUpMigration_eq]) e)
    (Lasting.of_frames (by rw [setUpMigration_eq]) fun k => ?_) (fun _ _ k => ?_)
  · rw [setUpMigration_slice, if_pos rfl, hm.mapped]; simp [SliceLoc.kind]
  · rw [setUpMigration_frameRec]; split
    · next e => subst e; rcases hm.target with hf | hf <;> simp [hf]
    · exact ⟨fun _ => id, id, .rfl⟩
  · rw [setUpMigration_slice]; split
    · next e => subst e; simp [hm.mapped]
    · exact ⟨.rfl, rfl, rfl⟩

/-- An abort's tables as a step, its target's record as given. -/
theorem abortTables_step {i : Instr} {s : State} {c : ChanNo} {m : Migration} {source : FrameNo}
    {target' : FrameRec} {cause : LastOutcome} (h : MapLaws s)
    (hm : (s.chan c).state.migration = some m) (hl : (s.slice m.slice).loc = .migrating source c)
    (ht : (target'.state = .free ∨ target'.state = .spare) ∧ target'.suspect = none ∨
      target'.state = .retired ∧ target'.suspect.isSome = true) :
    MapStep i s (s.abortTables c m source target' cause) := by
  have htg := target_of h hm
  have hs : (s.frame m.target).suspect = none :=
    notSuspect h.suspect (by simp [htg, FrameState.isBound]) (by simp [htg])
  have hsl : ∀ j, (s.abortTables c m source target' cause).slice j = _ := slice_set (s := s) rfl
  have hfr : ∀ g, (s.abortTables c m source target' cause).frame g = _ := frame_set (s := s) rfl
  refine .of_change (abortTables_laws h hm hl ht) rfl (changed_of_slice m.slice ?_)
    (fun e => absurd rfl e) (Lasting.of_frames rfl fun k => ?_) (fun _ _ k => ?_)
  · rw [hsl, if_pos rfl, hl]; simp [SliceLoc.kind]
  · rw [hfr]; split
    · next e =>
      subst e
      rw [hs, htg]
      rcases ht with ⟨ht | ht, -⟩ | ⟨ht, -⟩ <;> simp [ht]
    · exact ⟨fun _ => id, id, .rfl⟩
  · rw [hsl]; split
    · next e => subst e; simp [hl]
    · exact ⟨.rfl, rfl, rfl⟩

theorem abortChannel_step {i : Instr} {s : State} {c : ChanNo} {cause : LastOutcome} (h : MapLaws s)
    (hc : cause ≠ .targetRetired) : MapStep i s (s.abortChannel c cause) := by
  refine MapStep.then_still ?_ (sameMap_abandonCopy _ c).still
  cases hm : (s.chan c).state.migration with
  | none =>
    have : s.abortRecords c cause = s := by simp only [State.abortRecords, hm]
    rw [this]; exact MapStep.of_still h (Still.refl s)
  | some m =>
    obtain ⟨source, hl, -⟩ := migrating_of h hm
    have htg := target_of h hm
    refine (abortTables_step h hm hl (.inl ⟨?_, ?_⟩)).then_still (abortRecords_sameMap cause hm hl).still
    · exact returnedState_cases m hc
    · exact notSuspect h.suspect (by simp [htg, FrameState.isBound]) (by simp [htg])

theorem commit_step {i : Instr} {s : State} {c : ChanNo} {m n : Migration} {source : FrameNo}
    (h : MapLaws s) (hrun : (s.chan c).state = .running n source) (hms : m.slice = n.slice)
    (hmt : m.target = n.target) : MapStep i s (s.commit c m source) := by
  have hm : (s.chan c).state.migration = some n := by rw [hrun]; rfl
  have htg := target_of h hm
  obtain ⟨f, hl, hfb⟩ := migrating_of h hm
  obtain rfl : source = f := by
    have := (h.chain.1 c n source hrun).1; rw [hl] at this; exact (Option.some.inj this).symm
  have hne : m.target ≠ source := by rintro e; rw [hmt] at e; rw [e, hfb] at htg; cases htg
  rw [← hms] at hl hfb
  rw [← hmt] at htg
  have e := commit_fields s c m source
  refine .of_change (commit_laws h hrun hms hmt) (by rw [e]) (changed_of_slice m.slice ?_)
    (fun hp => absurd (by rw [e]) hp) (Lasting.of_frames (by rw [e]) fun k => ?_) (fun _ _ k => ?_)
  · rw [commit_slice, if_pos rfl, hl]; simp [SliceLoc.kind]
  · rw [commit_frameRec s c m source hne]; split
    · next e => subst e; rw [hfb]; dsimp only; split <;> simp
    · split
      · next e => subst e; simp [htg]
      · exact ⟨fun _ => id, id, .rfl⟩
  · rw [commit_slice]; split
    · next e => subst e; simp [hl]
    · exact ⟨.rfl, rfl, rfl⟩

theorem joinSpare_step {i : Instr} {s : State} {f : FrameNo} (h : MapLaws s)
    (hf : (s.frame f).state = .free) (hp : s.phase = .active) : MapStep i s (s.joinSpare f).bump := by
  have hfr : ∀ g, (s.joinSpare f).bump.frame g = _ := setFrameState_frame_eq s f (st := .spare)
  refine .of_change (mapLaws_bump (joinSpare_laws h hf hp)) rfl (changed_of_frame f ?_)
    (fun e => absurd rfl e) (Lasting.of_frames rfl fun g => ?_) fun _ _ => KeepsAttributes.of_slices rfl
  · rw [hfr, if_pos rfl, hf]; nofun
  · rw [hfr]; split
    · next e => subst e; simp [hf]
    · exact ⟨fun _ => id, id, .rfl⟩

theorem withdrawSpare_step {i : Instr} {s : State} {f : FrameNo} (h : MapLaws s)
    (hf : (s.frame f).state = .spare) (hp : s.phase = .active) :
    MapStep i s ((s.removeSpare f).setFrameState f .free).bump := by
  have hfr : ∀ g, ((s.removeSpare f).setFrameState f .free).bump.frame g =
      if f = g then { s.frame f with state := .free } else s.frame g := fun g => by
    rw [bump_frame, setFrameState_frame_eq, removeSpare_frameRec, removeSpare_frameRec]
  have e : ((s.removeSpare f).setFrameState f .free).bump.locked = s.locked ∧
      ((s.removeSpare f).setFrameState f .free).bump.phase = s.phase ∧
      ((s.removeSpare f).setFrameState f .free).bump.generation = s.generation + 1 ∧
      ((s.removeSpare f).setFrameState f .free).bump.slices = s.slices := by
    rw [removeSpare_eq]; exact ⟨rfl, rfl, rfl, rfl⟩
  refine .of_change (mapLaws_bump (withdrawSpare_laws h hf hp)) e.2.2.1 (changed_of_frame f ?_)
    (absurd e.2.1) (Lasting.of_frames e.1 fun g => ?_)
    fun _ _ => KeepsAttributes.of_slices e.2.2.2
  · rw [hfr, if_pos rfl, hf]; nofun
  · rw [hfr]; split
    · next e => subst e; simp [hf]
    · exact ⟨fun _ => id, id, .rfl⟩

end Sys2Proof.Machine.MapProofs
end

section
namespace Sys2Proof.Machine.MapProofs
open Sys2Proof Sys2Proof.Machine Sys2Proof.Machine.Laws

/-! ## The walk, ADOPT_DEFAULT, the import and the lock as steps -/

theorem testComplete_step {k : Socket} {o : ReadOutcome} {s : State} {f : FrameNo} (h : MapLaws s)
    (hp : s.powered = true) (hw : s.walk.frame = some f) :
    MapStep (.inventoryReadOutcome k o) s (s.testComplete f) := by
  have hun := h.walk.2.2.1 f hw
  have hrun : s.walk.running = true := by rw [h.walk.2.1, hw]; rfl
  have hinv : s.phase = .inventory := (h.walk.1 hp).1 hrun
  have hsus := notSuspect h.suspect (f := f) (by simp [hun, FrameState.isBound]) (by simp [hun])
  refine MapStep.then_still ?_ (testComplete_sameMap (f := f) hrun).still
  have hl := walkTo_laws h hp hw
  generalize (s.testVerdict f).nextUntested f = n at *
  have hfr : ∀ g, (walkTo (s.testVerdict f) n).frame g = _ := testVerdict_frameRec s f
  have e := testVerdict_eq s f
  have hph : (walkTo (s.testVerdict f) n).phase = if n.isSome then .inventory else .staged := by
    rw [← hinv, e]; rfl
  refine .of_change hl (by rw [e]; rfl) (changed_of_frame f ?_) ?_
    (Lasting.of_frames (by rw [e]; rfl) fun g => ?_) (fun _ ha => absurd (hinv.symm.trans ha) nofun)
  · rw [hfr, if_pos rfl, hun]; dsimp only; split <;> simp
  · intro hne
    rw [hph, hinv] at hne ⊢
    cases n
    · exact .inl ⟨rfl, rfl, k, o, rfl⟩
    · exact absurd rfl hne
  · rw [hfr]; split
    · next e =>
      subst e; rw [hun, hsus]; dsimp only
      cases s.walk.failed <;> simp
    · exact ⟨fun _ => id, id, .rfl⟩

theorem adopt_step {s : State} (h : MapLaws s) (hp : s.phase = .staged) (hl : s.locked = false) :
    MapStep .adoptDefault s s.adopt := by
  have hca := adoptFrame_cases s
  have hloc : s.adopt.locked = s.locked := by unfold State.adopt; rw [bumpIf_eq]
  have hph : s.adopt.phase = .active := by unfold State.adopt; rw [bumpIf_eq]
  have hgen : s.adopt.generation = s.generation + if !s.freeFrames.isEmpty then 1 else 0 := by
    unfold State.adopt; rw [bumpIf_eq]
  have hq : s.adopt.spareQ = s.spareQ ++ s.freeFrames.drop s.adoptCount := by
    unfold State.adopt; rw [bumpIf_eq]
  have hm : s.mapChanged s.adopt = !s.freeFrames.isEmpty := by
    cases hff : s.freeFrames with
    | nil =>
      have hnf : ∀ f, (s.frame f).state ≠ .free := fun f hf => by
        have := mem_freeFrames.2 hf; simp [hff] at this
      have h0 : s.adoptCount = 0 := by have := (adoptCount_le s).2; simpa [hff] using this
      rw [Bool.eq_iff_iff, mapChanged_iff]
      refine iff_of_false ?_ (by simp)
      rintro (hc | ⟨i, hc⟩ | ⟨f, hc⟩)
      · simp [hq, hff] at hc
      · simp [adopt_slice, State.adoptSlice, h0] at hc
      · rw [adopt_frameRec] at hc
        rcases hca f with ⟨-, hf⟩ | ⟨hf, -⟩
        · rcases hc with hc | ⟨hc1, hc2⟩
          · exact hc hf.symm
          · simp [hc1] at hc2
        · exact hnf f hf
    | cons f l =>
      have hf : (s.frame f).state = .free := mem_freeFrames.1 (by rw [hff]; exact List.mem_cons_self)
      refine changed_of_frame f ?_
      rw [adopt_frameRec, hf]
      rcases hca f with ⟨hn, -⟩ | ⟨-, ⟨i, -, -, hs⟩ | ⟨-, hs⟩⟩
      · exact absurd hf hn
      · simp [hs]
      · simp [hs]
  refine ⟨adopt_laws h hp, fun _ => by rw [hm, hgen], fun _ => ?_, Lasting.of_frames hloc fun f => ?_,
    fun e => by simp [hl] at e⟩
  · rw [hp, hph]; exact .inr (.inl ⟨rfl, rfl, .inl rfl⟩)
  · rw [adopt_frameRec]
    rcases hca f with ⟨hn, hs⟩ | ⟨hf, ⟨i, -, -, hs⟩ | ⟨-, hs⟩⟩
    · simp [hs]
    · simp [hs, hf]
    · simp [hs, hf]

/-- What only moves the phase and the import session is no map change. -/
theorem phase_step {i : Instr} {s t : State} {ph : Phase} {imp : Option ImportSession}
    (hl : MapLaws t) (hp : s.phase ≠ .active) (hm : ph ≠ s.phase → PhaseMove i s.phase ph)
    (e : SameMap { s with phase := ph, importS := imp } t) : MapStep i s t := by
  have hfs : ∀ f, (t.frame f).state = (s.frame f).state := e.states
  have hfu : ∀ f, (t.frame f).suspect = (s.frame f).suspect := e.suspects
  have hsl : ∀ j, t.slice j = s.slice j := slice_congr e.slices
  have hq : t.spareQ = s.spareQ := e.spareQ
  refine ⟨hl, fun _ => ?_, fun hne => ?_, Lasting.of_frames e.locked fun f => ?_,
    fun _ ha => absurd ha hp⟩
  · have hm : s.mapChanged t = false := by
      rw [Bool.eq_false_iff, ne_eq, mapChanged_iff]
      simp [hfs, hfu, hsl, hq]
    rw [hm]; simpa using e.generation
  · rw [e.phase] at hne ⊢; exact hm hne
  · rw [hfs, hfu]; exact ⟨fun _ => id, id, .rfl⟩

theorem endImport_step {i : Instr} {s : State} (h : MapLaws s) (hp : s.phase = .importing)
    (hi : i = .importAbort ∨ i = .importRecord ∨ i = .importEnd) : MapStep i s s.endImport :=
  phase_step (endImport_laws h hp) (by simp [hp])
    (fun _ => by rw [hp]; exact .inr (.inr (.inr (.inl ⟨rfl, rfl, by tauto⟩)))) (endImport_sameMap s)

theorem importBegin_step {s t : State} {imp : ImportSession} (h : MapLaws s) (hp : s.phase = .staged)
    (e : SameMap { s with phase := .importing, importS := some imp } t) : MapStep .importBegin s t :=
  phase_step (phase_laws h (.inl hp) (.inr rfl) (by simp) e) (by simp [hp])
    (fun _ => by rw [hp]; exact .inr (.inr (.inl ⟨rfl, rfl, rfl⟩))) e

/-- What the commit leaves, seen from its tables. -/
theorem importCommit_fields (s : State) (t : ImportSession) :
    (s.importCommit t).phase = .active ∧ (s.importCommit t).locked = s.locked ∧
    (s.importCommit t).generation =
      s.generation + (if s.mapChanged (s.importTables t) then 1 else 0) ∧
    (s.importCommit t).spareQ = (s.importTables t).spareQ ∧
    (s.importCommit t).slices = (s.importTables t).slices ∧
    ∀ f, ((s.importCommit t).frame f).state = (importedFrame (s.frame f) (t.frame f)).state ∧
      ((s.importCommit t).frame f).suspect = (importedFrame (s.frame f) (t.frame f)).suspect := by
  obtain ⟨u, hu, e⟩ := importCommit_eq s t
  have hf : ∀ f, (s.importTables t).frame f = importedFrame (s.frame f) (t.frame f) := fun f => by
    simp [State.importTables, State.frame]
  have hb : (s.importTables t).phase = .active ∧ (s.importTables t).locked = s.locked ∧
      (s.importTables t).generation = s.generation := by simp [State.importTables]
  generalize s.importTables t = b at *
  rw [e, bumpIf_eq]
  exact ⟨hu.phase.trans hb.1, hu.locked.trans hb.2.1, by rw [hu.generation, hb.2.2], hu.spareQ,
    hu.slices, fun f => ⟨(hu.states f).trans (by rw [hf]), (hu.suspects f).trans (by rw [hf])⟩⟩

theorem importCommit_step {s : State} {t : ImportSession} (h : MapLaws s) (hp : s.phase = .importing)
    (hpow : s.powered = true) (hi : t.inconsistent = none) (hd : s.disagrees t = none) :
    MapStep .importEnd s (s.importCommit t) := by
  have hl := importCommit_laws h hp hpow hi hd
  obtain ⟨hph, hlk, hg, hq, hsl, hfr⟩ := importCommit_fields s t
  have hm : s.mapChanged (s.importCommit t) = s.mapChanged (s.importTables t) := by
    have hf : ∀ f, (s.importTables t).frame f = importedFrame (s.frame f) (t.frame f) := fun f => by
      simp [State.importTables, State.frame]
    rw [Bool.eq_iff_iff, mapChanged_iff, mapChanged_iff]
    simp only [slice_congr hsl, hq, (hfr _).1, (hfr _).2, hf]
  refine ⟨hl, fun _ => by rw [hm, hg], fun _ => ?_, Lasting.of_frames hlk fun f => ?_,
    fun _ ha => by simp [hp] at ha⟩
  · rw [hp, hph]; exact .inr (.inr (.inr (.inr ⟨rfl, rfl, rfl⟩)))
  · rw [(hfr f).1, (hfr f).2]
    have hfree : (s.frame f).state = .free → (s.frame f).suspect = none := fun hs =>
      notSuspect h.suspect (by simp [hs, FrameState.isBound]) (by simp [hs])
    generalize s.frame f = live at *
    obtain ⟨ls, lc, ln, lu⟩ := live
    obtain ⟨is, ib, ip, ic, in_, iu⟩ := t.frame f
    cases ls
    case free =>
      obtain rfl : lc = none := hfree rfl
      cases is <;> cases ic <;> cases ib <;> simp [importedFrame, importedState]
    all_goals simp [importedFrame, importedState]

theorem lock_step {i : Instr} {s : State} (h : MapLaws s) : MapStep i s { s with locked := true } := by
  refine ⟨⟨h.sliceFrame, h.sliceChan, h.target, h.spare, h.retire, h.suspect, h.phase, h.chain,
    h.poison, h.presence, h.walk, h.session⟩, fun _ => ?_, fun e => absurd rfl e,
    ⟨fun _ _ => id, fun _ => id, fun _ => .rfl, fun _ => rfl⟩, fun _ _ => KeepsAttributes.of_slices rfl⟩
  have : s.mapChanged { s with locked := true } = s.mapChanged s := rfl
  rw [this, mapChanged_self]; simp

end Sys2Proof.Machine.MapProofs
end

section
namespace Sys2Proof.Machine.MapProofs
open Sys2Proof Sys2Proof.Machine Sys2Proof.Machine.Laws

/-! ## Every command as a step of the map -/

theorem step_refl {c : Instr} {s : State} (h : MapLaws s) : MapStep c s s :=
  MapStep.of_still h (Still.refl s)

theorem step_of_same {c : Instr} {s t : State} (h : MapLaws s) (e : SameMap s t) : MapStep c s t :=
  MapStep.of_still h e.still

theorem whenOn_step {c : Instr} {s t : State} (h : MapLaws s)
    (ht : s.powered = true → MapStep c s t) : MapStep c s (s.whenOn t) := by
  unfold State.whenOn
  split
  · next hp => exact ht hp
  · exact step_refl h

/-! ### The commands of the command unit -/

theorem takeCommand_step {c : Instr} {s : State} (h : MapLaws s) {forCode : Byte → Bool}
    {run : CmdWord → State → CmdOut}
    (hrun : ∀ w u, MapLaws u → u.powered = true → MapStep c u (run w u).state) :
    MapStep c s (s.takeCommand forCode run) := by
  refine whenOn_step h fun hp => ?_
  split
  · exact step_refl h
  · next w rest _ =>
    split
    · have e : SameMap s { s with cmdQ := rest } := by constructor <;> intros <;> rfl
      refine (e.still.then_step (hrun w _ (e.laws h) hp)).then_still (SameMap.still ?_)
      constructor <;> intros <;> rfl
    · exact step_refl h

theorem guarded_step {c : Instr} {s : State} {ps : List Phase} {b : Bool} {run : CmdOut}
    (h : MapLaws s)
    (hrun : s.phase ∈ ps → (b = true → s.locked = false) → MapStep c s run.state) :
    MapStep c s (s.guarded ps b run).state := by
  unfold State.guarded State.inPhase
  split
  · next hp =>
    split
    · exact step_refl h
    · next hl => exact hrun (by simpa using hp) fun hb => by simpa [hb] using hl
  · exact step_refl h

theorem chooseMapFrame_ok {s : State} {fa : Option FrameNo} {f : FrameNo}
    (h : s.chooseMapFrame fa = .ok f) : (s.frame f).state = .free ∨ (s.frame f).state = .spare := by
  unfold State.chooseMapFrame at h
  split at h
  · split at h
    · next hf => cases h; exact hf
    · cases h
  · split at h
    · next hf => cases h; exact .inl (by simpa using (lowest_of_find_finRange hf).1)
    · cases h

theorem map_step {w : CmdWord} {s : State} (h : MapLaws s) : MapStep .map s (mapCommand w s).state := by
  unfold mapCommand
  split
  · refine guarded_step h fun hp hl => ?_
    split
    · exact step_refl h
    · exact step_refl h
    · next hi =>
      split
      · exact step_refl h
      · next f hf =>
        exact bindSlice_step h hi (chooseMapFrame_ok hf) (by simpa using hp) (hl rfl)
  · exact step_refl h

theorem unmap_step {w : CmdWord} {s : State} (h : MapLaws s) :
    MapStep .unmap s (unmapCommand w s).state := by
  unfold unmapCommand
  split
  · refine guarded_step h fun hp hl => ?_
    split
    · exact step_refl h
    · exact step_refl h
    · next hi => exact unbindSlice_step h hi (hl rfl)
  · exact step_refl h

theorem setAttrCommand_step {w : CmdWord} {s : State} (h : MapLaws s) :
    MapStep .setAttr s (setAttrCommand w s).state := by
  unfold setAttrCommand
  split
  · exact guarded_step h fun _ hl => setAttr_step h _ _ _ (hl rfl)
  · exact step_refl h

theorem addSpare_step {w : CmdWord} {s : State} (h : MapLaws s) :
    MapStep .addSpare s (addSpareCommand w s).state := by
  unfold addSpareCommand
  split
  · refine guarded_step h fun hp _ => ?_
    split
    · next hf => exact joinSpare_step h hf (by simpa using hp)
    · exact step_refl h
  · exact step_refl h

theorem withdraw_step {w : CmdWord} {s : State} (h : MapLaws s) :
    MapStep .withdrawSpare s (withdrawSpareCommand w s).state := by
  unfold withdrawSpareCommand
  split
  · refine guarded_step h fun hp _ => ?_
    split
    · next hf => exact withdrawSpare_step h hf (by simpa using hp)
    · exact step_refl h
  · exact step_refl h

/-- The channel that a TARGET frame belongs to (R23). -/
theorem targetChan_of_target {s : State} (h : MapLaws s) {f : FrameNo}
    (hf : (s.frame f).state = .target) :
    ∃ c m, s.targetChan f = some c ∧ (s.chan c).state.migration = some m ∧ m.target = f := by
  unfold State.targetChan
  cases hfind : (List.finRange 4).find? fun c =>
      match (s.chan c).state.migration with
      | some m => m.target == f
      | none => false with
  | none =>
    obtain ⟨c, hc⟩ := (h.target.1 f).1 hf
    obtain ⟨m, hm, ht⟩ := Option.map_eq_some_iff.1 hc
    have := find_finRange_none.1 hfind c
    simp [hm, ht] at this
  | some c =>
    have hc := (lowest_of_find_finRange hfind).1
    cases hm : (s.chan c).state.migration with
    | none => simp [hm] at hc
    | some m => exact ⟨c, m, rfl, hm, by simpa [hm] using hc⟩

/-- R67: the marking, the abort and the retirement are the tables of one abort. -/
theorem retireTarget_step {s : State} (h : MapLaws s) {f : FrameNo} (hf : (s.frame f).state = .target) :
    MapStep .retire s (s.retireTarget f).state := by
  obtain ⟨c, m, hc, hm, rfl⟩ := targetChan_of_target h hf
  obtain ⟨source, hl, -⟩ := migrating_of h hm
  unfold State.retireTarget
  rw [hc]
  refine MapStep.then_still ?_ (sameMap_abandonCopy _ c).still
  refine (abortTables_step (target' := { s.frame m.target with
    state := .retired, suspect := some .software }) (cause := .targetRetired) h hm hl
    (.inr ⟨rfl, rfl⟩)).then_still (SameMap.still ?_)
  rw [abortRecords_eq (s := s.setSuspect m.target .software) .targetRetired hm hl]
  have hfr : ∀ g, ((s.setSuspect m.target .software).frame g) =
      if m.target = g then { s.frame m.target with suspect := some .software } else s.frame g := fun g => by
    simp [State.setSuspect]
  have h1 : ∀ g, (s.abortTables c m source { s.frame m.target with
      state := .retired, suspect := some .software } .targetRetired).frame g = _ :=
    frame_set (s := s) rfl
  have h2 : ∀ g, ({ (s.setSuspect m.target .software).abortTables c m source
      { (s.setSuspect m.target .software).frame m.target with
        state := returnedState m .targetRetired } .targetRetired with
      arbs := (s.setSuspect m.target .software).arbs
      flags := ((s.setSuspect m.target .software).abortRecords c .targetRetired).flags } : State).frame g =
        _ := frame_set (s := s.setSuspect m.target .software) rfl
  refine ⟨rfl, fun g => ?_, fun g => ?_, rfl, ?_, rfl, rfl, rfl, rfl, rfl, rfl, rfl, rfl, rfl, rfl, rfl⟩
  · rw [h1, h2, hfr, hfr]; split <;> simp [returnedState]
  · rw [h1, h2, hfr, hfr]; split <;> simp
  · simp [State.abortTables, returnedState]; rfl

theorem retire_step {w : CmdWord} {s : State} (h : MapLaws s) :
    MapStep .retire s (retireCommand w s).state := by
  unfold retireCommand
  split
  · next f _ =>
    refine guarded_step h fun _ _ => ?_
    split
    · exact step_refl h
    · exact step_refl h
    · exact step_refl h
    · next hf => exact retireTarget_step h hf
    · next hf =>
      split
      · exact step_refl h
      · next hs => exact markSuspect_step h (by simp [hf, FrameState.inUse]) (by simpa using hs)
    · next hf =>
      exact markSuspect_step h (by simp [hf, FrameState.inUse])
        (notSuspect h.suspect (by simp [hf, FrameState.isBound]) (by simp [hf]))
    · next hf =>
      exact markSuspect_step h (by simp [hf, FrameState.inUse])
        (notSuspect h.suspect (by simp [hf, FrameState.isBound]) (by simp [hf]))
  · exact step_refl h

theorem clearCounts_step {w : CmdWord} {s : State} (h : MapLaws s) :
    MapStep .clearCounts s (clearCountsCommand w s).state := by
  unfold clearCountsCommand
  split
  · refine guarded_step h fun _ _ => ?_
    split
    · exact step_refl h
    · refine step_of_same h ⟨rfl, fun g => ?_, fun g => ?_, rfl, rfl, rfl, rfl, rfl, rfl, rfl, rfl, rfl,
        rfl, rfl, rfl, rfl⟩ <;>
      · dsimp only [State.done]
        rw [setFrame_frame]; split <;> simp [*]
  · exact step_refl h

theorem mayMigrate_of_choices {s : State} {i : SliceNo} {source f : FrameNo} {c : ChanNo}
    {target : Option FrameNo} {chan after : Option ChanNo} (h : MapLaws s)
    (hl : (s.slice i).loc = .mapped source) (hc : s.chooseChannel chan = .ok c)
    (hf : s.chooseTarget target = .ok f) (ha : s.startRefused c after = false) :
    MayMigrate s i source f c after where
  mapped := hl
  idle := by
    unfold State.chooseChannel at hc
    split at hc
    · split at hc
      · next h => cases hc; exact h
      · cases hc
    · split at hc
      · next h => cases hc; simpa using (lowest_of_find_finRange h).1
      · cases hc
  target := by
    unfold State.chooseTarget at hf
    split at hf
    · split at hf
      · next h => cases hf; exact h
      · cases hf
    · split at hf
      · next hq => cases hf; exact .inr ((h.spare.2.1 _).1 (List.mem_of_head? hq))
      · cases hf
  after d hd := by
    subst hd
    have : ((s.chan d).state == .idle) = false ∧ (d == c) = false := by
      simpa [State.startRefused] using ha
    exact ⟨by simpa using this.2, by simpa using this.1⟩

theorem migrate_step {w : CmdWord} {s : State} (h : MapLaws s) :
    MapStep .migrate s (migrateCommand w s).state := by
  unfold migrateCommand
  split
  · refine guarded_step h fun _ _ => ?_
    unfold State.migrate
    split
    · exact step_refl h
    · exact step_refl h
    · next hl =>
      split
      · exact step_refl h
      · next hc =>
        split
        · exact step_refl h
        · next hf =>
          split
          · exact step_refl h
          · next ha => exact setUpMigration_step h (mayMigrate_of_choices h hl hc hf (by simpa using ha))
  · exact step_refl h

theorem cancel_step {w : CmdWord} {s : State} (h : MapLaws s) :
    MapStep .cancel s (cancelCommand w s).state := by
  unfold cancelCommand
  split
  · refine guarded_step h fun _ _ => ?_
    split
    · exact step_refl h
    · exact abortChannel_step h (by simp)
  · exact step_refl h

theorem clearPoison_step {w : CmdWord} {s : State} (h : MapLaws s) :
    MapStep .clearPoison s (clearPoisonCommand w s).state := by
  unfold clearPoisonCommand
  split
  · refine guarded_step h fun _ _ => ?_
    split
    · exact MapStep.of_still h (dropPoison_still s _ _)
    · exact step_refl h
  · exact step_refl h

theorem followInterval_sameMap (s : State) (n : Nat) : SameMap s (s.followInterval n) := by
  unfold State.followInterval
  dsimp only
  split
  · exact SameMap.refl s
  · split
    · exact stopScrubber_sameMap s
    · exact startScrubber_sameMap s

theorem setPolicy_step {w : CmdWord} {s : State} (h : MapLaws s) :
    MapStep .setPolicy s (setPolicyCommand w s).state := by
  unfold setPolicyCommand
  split
  · next p _ =>
    have e : SameMap s { s with policy := p } := by constructor <;> intros <;> rfl
    refine step_of_same h ?_
    dsimp only [State.done]
    split
    · exact e.trans (followInterval_sameMap _ _)
    · exact e
  · exact step_refl h

theorem adoptDefault_step {w : CmdWord} {s : State} (h : MapLaws s) :
    MapStep .adoptDefault s (adoptDefaultCommand w s).state :=
  guarded_step h fun hp hl => adopt_step h (by simpa using hp) (hl rfl)

theorem importBeginCommand_step {w : CmdWord} {s : State} (h : MapLaws s) :
    MapStep .importBegin s (importBeginCommand w s).state := by
  refine guarded_step h fun hp _ => importBegin_step (imp := .opened) h (by simpa using hp) ?_
  constructor <;> intros <;> rfl

theorem importRecord_step {w : CmdWord} {s : State} (h : MapLaws s) :
    MapStep .importRecord s (importRecordCommand w s).state := by
  have href : ∀ st : Status, MapStep .importRecord s
      (match s.phase, s.importS with
        | .importing, some t => s.endRefused st t
        | _, _ => s.refuse st).state := fun st => by
    split
    · next hp _ => exact endImport_step h hp (by simp)
    · exact step_refl h
  unfold importRecordCommand
  dsimp only
  split
  · exact href _
  · refine guarded_step h fun hp _ => ?_
    split
    · exact step_refl h
    · next hs =>
      split
      · refine step_of_same h ⟨rfl, fun _ => rfl, fun _ => rfl, rfl, rfl, rfl, rfl, rfl, rfl, rfl, rfl,
          rfl, rfl, ?_, rfl, rfl⟩
        simp [hs]
      · exact href _

theorem importEnd_step {w : CmdWord} {s : State} (h : MapLaws s) (hpow : s.powered = true) :
    MapStep .importEnd s (importEndCommand w s).state := by
  refine guarded_step h fun hp _ => ?_
  have hp' : s.phase = .importing := by simpa using hp
  have hend : MapStep .importEnd s s.endImport := endImport_step h hp' (by simp)
  split
  · exact step_refl h
  · unfold State.importEnd
    split
    · exact hend
    · split
      · exact hend
      · split
        · exact hend
        · next hi =>
          split
          · exact hend
          · next hd => exact importCommit_step h hp' hpow hi hd

theorem importAbort_step {w : CmdWord} {s : State} (h : MapLaws s) :
    MapStep .importAbort s (importAbortCommand w s).state :=
  guarded_step h fun hp _ => endImport_step h (by simpa using hp) (by simp)

theorem exportBegin_step {w : CmdWord} {s : State} (h : MapLaws s) :
    MapStep .exportBegin s (exportBeginCommand w s).state := by
  refine guarded_step h fun _ _ => step_of_same h ?_
  constructor <;> intros <;> rfl

theorem exportNext_step {w : CmdWord} {s : State} (h : MapLaws s) :
    MapStep .exportNext s (exportNextCommand w s).state := by
  refine guarded_step h fun _ _ => ?_
  split
  · exact step_refl h
  · split
    · refine step_of_same h ?_; constructor <;> intros <;> rfl
    · refine step_of_same h ?_; constructor <;> intros <;> rfl

end Sys2Proof.Machine.MapProofs
end

section
namespace Sys2Proof.Machine.MapProofs
open Sys2Proof Sys2Proof.Machine Sys2Proof.Machine.Laws

/-! ### The events of the part -/

/-- What a row's command leaves is a step of the map. -/
def Steps (c : Instr) (s : State) : Prop := ∃ t, exec c s = .next t ∧ MapStep c s t

theorem takeTransaction_sameMap (s : State) (i : Initiator) (a : PortAccess) (addr : Nat) :
    SameMap s (s.takeTransaction i a addr) := by
  unfold State.takeTransaction
  dsimp only
  split
  · constructor <;> intros <;> rfl
  · split
    · constructor <;> intros <;> rfl
    · exact (sameMap_setPort s i _).trans (sameMap_checkAndSteer _ i _)

theorem dataPortTransaction_steps {s : State} (h : MapLaws s) (i : Initiator) (a : PortAccess)
    (addr : Nat) : Steps (.dataPortTransaction i a addr) s := by
  refine ⟨_, rfl, whenOn_step h fun _ => ?_⟩
  split
  · exact step_of_same h (takeTransaction_sameMap s i a addr)
  · exact step_refl h

theorem answer_sameMap (s : State) (i : Initiator) (r : PortResp) (d : PortData) :
    SameMap s (s.answer i r d) := sameMap_setPort s i _

theorem readLost_still (s : State) (t : Txn) : Still s (s.readLost t) := by
  unfold State.readLost
  split
  · exact (sameMap_raise s _).still
  · next h => exact (addPoison_still t.line h).trans (sameMap_raise _ _).still

theorem readOutcome_step {c : Instr} {s : State} (h : MapLaws s) (k : Socket) (op : ModOp)
    (i : Initiator) (t : Txn) (o : ReadOutcome) : MapStep c s (s.readOutcome k op i t o) := by
  have hm : MapStep c s ((s.complete k op).takeOutcome op.fl.frame o) :=
    (sameMap_complete s k op).still.then_step
      (takeOutcome_step ((sameMap_complete s k op).laws h) op.fl.frame o)
  unfold State.readOutcome
  dsimp only
  split
  · exact hm.then_still ((readLost_still _ t).trans (answer_sameMap _ i _ _).still)
  · exact hm.then_still (answer_sameMap _ i _ _).still

theorem dataPortReadOutcome_steps {s : State} (h : MapLaws s) (k : Socket) (o : ReadOutcome) :
    Steps (.dataPortReadOutcome k o) s := by
  refine ⟨_, rfl, whenOn_step h fun _ => ?_⟩
  split
  · split
    · split
      · exact readOutcome_step h _ _ _ _ _
      · exact step_refl h
    · exact step_refl h
  · exact step_refl h

theorem writeComplete_still (s : State) (k : Socket) (op : ModOp) (i : Initiator) (t : Txn)
    (f : FrameNo) (g : Option FrameNo) (n : Nat) : Still s (s.writeComplete k op i t f g n) := by
  refine (sameMap_complete s k op).still.trans ?_
  refine Still.trans ?_ (sameMap_testRequests _ _).still
  split
  · unfold State.writeDone
    split
    · exact (dropPoison_still _ _ _).trans (answer_sameMap _ _ _ _).still
    · exact (answer_sameMap _ _ _ _).still
  · exact (sameMap_setPort _ _ _).still

theorem dataPortWriteComplete_steps {s : State} (h : MapLaws s) (k : Socket) :
    Steps (.dataPortWriteComplete k) s := by
  refine ⟨_, rfl, whenOn_step h fun _ => ?_⟩
  split
  · split
    · split
      · exact MapStep.of_still h (writeComplete_still _ _ _ _ _ _ _ _)
      · exact step_refl h
    · exact step_refl h
  · exact step_refl h

theorem abandonedOperationComplete_steps {s : State} (h : MapLaws s) (k : Socket) (o : ReadOutcome) :
    Steps (.abandonedOperationComplete k o) s := by
  refine ⟨_, rfl, whenOn_step h fun _ => ?_⟩
  split
  · next op _ =>
    have e := sameMap_complete s k op
    split
    · exact step_refl h
    · refine MapStep.then_still ?_ (sameMap_testRequests _ _).still
      split
      · exact e.still.then_step (takeOutcome_step (e.laws h) _ _)
      · exact step_of_same h e
  · exact step_refl h

theorem arbiterGrant_steps {s : State} (h : MapLaws s) (k : Socket) : Steps (.arbiterGrant k) s := by
  refine ⟨_, rfl, whenOn_step h fun _ => ?_⟩
  split
  · exact step_of_same h (sameMap_setArb s k _)
  · exact step_refl h

theorem claimGrant_steps {s : State} (h : MapLaws s) (o : Owner) : Steps (.claimGrant o) s := by
  refine ⟨_, rfl, whenOn_step h fun _ => ?_⟩
  split
  · split
    · exact step_of_same h (sameMap_grantClaim s o _)
    · exact step_refl h
  · exact step_refl h

theorem lineCopyBegin_steps {s : State} (h : MapLaws s) (c : ChanNo) : Steps (.lineCopyBegin c) s := by
  refine ⟨_, rfl, whenOn_step h fun _ => ?_⟩
  split
  · exact step_of_same h (sameMap_beginCopy s c)
  · exact step_refl h

/-- The generation is none of the poison list's business. -/
theorem addPoison_bumpIf (s : State) (i : SliceNo) (l : LineNo) (b : Bool) :
    (s.addPoison i l).bumpIf b = (s.bumpIf b).addPoison i l := by
  cases b
  · rfl
  · unfold State.addPoison
    have : (s.bumpIf true).poisonResult i l = s.poisonResult i l := rfl
    rw [this]
    cases s.poisonResult i l <;> rfl

theorem countPoisoned_still {s : State} (h : MapLaws s) {c : ChanNo} {m : Migration} {f : FrameNo}
    (hrun : (s.chan c).state = .running m f) : Still s (s.countPoisoned c m) := by
  unfold State.countPoisoned
  rw [hrun]
  exact runProgress_still hrun rfl rfl (h.chain.1 c m f hrun).2

/-- R68: the marking and the abort POISON_FULL are one event with one advance of the generation. -/
theorem markAndAbort_step {i : Instr} {s u : State} {c : ChanNo} {cause : LastOutcome}
    (hu : MapLaws u) (hm : (u.chan c).state.migration ≠ none) (hc : cause ≠ .targetRetired)
    (hg : u.generation = s.generation) (hp : u.phase = s.phase) (hs : u.slices = s.slices)
    (hl : Lasting s u) : MapStep i s (u.abortChannel c cause) := by
  have st : MapStep i u (u.abortChannel c cause) := abortChannel_step hu hc
  obtain ⟨m, hm⟩ := Option.ne_none_iff_exists'.1 hm
  obtain ⟨source, hl', -⟩ := migrating_of hu hm
  have e := sameMap_abandonCopy (u.abortRecords c cause) c
  have hgen : (u.abortChannel c cause).generation = s.generation + 1 := by
    have : (u.abortChannel c cause).generation = (u.abortRecords c cause).generation := e.generation
    rw [this, abortRecords_generation cause hm hl', hg]
  have hph : (u.abortChannel c cause).phase = u.phase := by rw [abortChannel_frame]
  have hsl : (u.abortChannel c cause).slice m.slice = { u.slice m.slice with loc := .mapped source } := by
    have : (u.abortChannel c cause).slice m.slice = (u.abortRecords c cause).slice m.slice :=
      slice_congr e.slices _
    rw [this, abortRecords_slice cause hm hl', if_pos rfl]
  refine .of_change st.laws hgen (changed_of_slice m.slice ?_) (fun hne => absurd (hph.trans hp) hne)
    (hl.trans st.lasting) (fun hk hq => ?_)
  · rw [hsl, ← slice_congr hs, hl']; simp [SliceLoc.kind]
  · exact (KeepsAttributes.of_slices hs).trans (st.attributes (hl.locked hk) (hp.trans hq))

/-- A marking, or none, without the generation. -/
theorem countAndMark_facts {s : State} (h : MapLaws s) (f : FrameNo) (o : ReadOutcome) :
    MapLaws (s.countAndMark f o) ∧ Lasting s (s.countAndMark f o) := by
  have e := sameMap_countOnly s f o
  rcases countAndMark_cases s f o with ⟨-, hc⟩ | ⟨c, -, hc, hf, hs⟩
  · rw [hc]; exact ⟨e.laws h, e.lasting⟩
  · rw [hc]; exact ⟨markSuspect_laws (e.laws h) hf hs, e.lasting.trans (markSuspect_lasting hf hs)⟩

theorem copyLost_step {i : Instr} {s : State} (h : MapLaws s) {c : ChanNo} {m : Migration}
    {f : FrameNo} (hrun : (s.chan c).state = .running m f) (fl : FrameLine) :
    MapStep i s (s.copyLost c m fl) := by
  have hm : (s.chan c).state.migration = some m := by rw [hrun]; rfl
  obtain ⟨source, hl, -⟩ := migrating_of h hm
  have ec := countAndMark_frame s fl.frame .uncorrectable
  obtain ⟨hul, hula⟩ := countAndMark_facts h fl.frame .uncorrectable
  have hmt : MapStep i s ((s.countAndMark fl.frame .uncorrectable).bumpIf
    (s.marks fl.frame .uncorrectable)) := takeOutcome_step h fl.frame .uncorrectable
  have hbch : ∀ b, ((s.countAndMark fl.frame .uncorrectable).bumpIf b).chan c = s.chan c := fun b => by
    rw [bumpIf_eq, ec]; rfl
  have hbsl : ∀ b, ((s.countAndMark fl.frame .uncorrectable).bumpIf b).slice m.slice = s.slice m.slice :=
    fun b => by rw [bumpIf_eq, ec]; rfl
  have hadd := fun b => addPoison_still (s := (s.countAndMark fl.frame .uncorrectable).bumpIf b)
    fl.line (i := m.slice) (by rw [hbsl, hl]; nofun)
  have hadd0 := hadd false
  unfold State.copyLost
  dsimp only
  split
  · rw [addPoison_bumpIf]
    exact hmt.then_still ((hadd _).trans (sameMap_request _ _).still)
  · rw [addPoison_bumpIf]
    refine (hmt.then_still ((hadd _).trans (Still.trans ?_ (sameMap_request _ _).still)))
    refine countPoisoned_still ((hadd _).laws hmt.laws) (f := f) ?_
    rw [addPoison_frame, ← hrun, ← hbch]; rfl
  · refine markAndAbort_step (hadd0.laws hul) ?_ (by simp) ?_ ?_ ?_ (hula.trans hadd0.lasting)
    · have : ((s.countAndMark fl.frame .uncorrectable).addPoison m.slice fl.line).chan c = s.chan c := by
        rw [addPoison_frame, ec]; rfl
      rw [this, hm]; simp
    · rw [addPoison_frame, ec]
    · rw [addPoison_frame, ec]
    · rw [addPoison_frame, ec]

theorem copyRead_step {i : Instr} {s : State} (h : MapLaws s) (k : Socket) (op : ModOp) {c : ChanNo}
    {m : Migration} {f : FrameNo} (hrun : (s.chan c).state = .running m f) (o : ReadOutcome) :
    MapStep i s (s.copyRead k op c m o) := by
  have e := sameMap_complete s k op
  have hrun' : ((s.complete k op).chan c).state = .running m f := by
    rw [chan_congr e.chans]; exact hrun
  unfold State.copyRead
  dsimp only
  split
  · exact e.still.then_step (copyLost_step (e.laws h) hrun' op.fl)
  · exact e.still.then_step ((takeOutcome_step (e.laws h) _ _).then_still (sameMap_request _ _).still)

theorem lineCopyReadOutcome_steps {s : State} (h : MapLaws s) (k : Socket) (o : ReadOutcome) :
    Steps (.lineCopyReadOutcome k o) s := by
  refine ⟨_, rfl, whenOn_step h fun _ => ?_⟩
  split
  · split
    · split
      · next hr => exact copyRead_step h _ _ hr o
      · exact step_refl h
    · exact step_refl h
  · exact step_refl h

theorem copyDone_step {i : Instr} {s : State} (h : MapLaws s) (k : Socket) (op : ModOp) {c : ChanNo}
    {m : Migration} {f : FrameNo} (hrun : (s.chan c).state = .running m f) :
    MapStep i s (s.copyDone k op c m f) := by
  have e := sameMap_complete s k op
  have hrun' : ((s.complete k op).chan c).state = .running m f := by
    rw [chan_congr e.chans]; exact hrun
  unfold State.copyDone
  dsimp only
  split
  · next hc =>
    refine MapStep.of_still h (e.still.trans (Still.trans ?_
      ((sameMap_releasePlace _ _).trans (sameMap_beginCopy _ c)).still))
    exact runProgress_still hrun' rfl rfl (le_of_lt hc)
  · exact e.still.then_step ((commit_step (e.laws h) hrun' rfl rfl).then_still
      (sameMap_releasePlace _ _).still)

theorem lineCopyComplete_steps {s : State} (h : MapLaws s) (k : Socket) :
    Steps (.lineCopyComplete k) s := by
  refine ⟨_, rfl, whenOn_step h fun _ => ?_⟩
  split
  · split
    · split
      · next hr => exact copyDone_step h _ _ hr
      · exact step_refl h
    · exact step_refl h
  · exact step_refl h

theorem chainBrokenAbort_steps {s : State} (h : MapLaws s) : Steps .chainBrokenAbort s := by
  refine ⟨_, rfl, whenOn_step h fun _ => ?_⟩
  split
  · exact abortChannel_step h (by simp)
  · exact step_refl h

/-- A dispatch start's choice meets R72's conditions. -/
theorem dispatchChoice_may {s : State} (h : MapLaws s) {i : SliceNo} {f t : FrameNo} {c : ChanNo}
    (hd : s.dispatchChoice = some (i, f, t, c)) : MayMigrate s i f t c none := by
  unfold State.dispatchChoice at hd
  split at hd
  · split at hd
    · next hf ht hc =>
      obtain ⟨rfl, rfl, rfl, rfl⟩ := by simpa using hd
      obtain ⟨g, -, hg⟩ := List.exists_of_findSome?_eq_some hf
      refine ⟨?_, .inr ((h.spare.2.1 _).1 (List.mem_of_head? ht)),
        by simpa using (lowest_of_find_finRange hc).1, nofun⟩
      unfold State.eligibleEntry at hg
      split at hg
      · next hb =>
        split at hg
        · next k hk =>
          obtain ⟨rfl, rfl⟩ := by simpa using hg
          have := (h.sliceFrame _ _).2 hb
          rw [hk] at this ⊢
          rw [← Option.some.inj this]
        · cases hg
      · cases hg
    · cases hd
  · cases hd

theorem dispatchStart_steps {s : State} (h : MapLaws s) : Steps .dispatchStart s := by
  refine ⟨_, rfl, whenOn_step h fun _ => ?_⟩
  split
  · next hd => exact setUpMigration_step h (dispatchChoice_may h hd)
  · exact step_refl h

theorem scrub_sameMap (s : State) (p : Scrubber) : SameMap s { s with scrub := p } := by
  constructor <;> intros <;> rfl

theorem scrubTimerExpiry_steps {s : State} (h : MapLaws s) : Steps .scrubTimerExpiry s := by
  refine ⟨_, rfl, whenOn_step h fun _ => ?_⟩
  split
  · refine step_of_same h ?_
    unfold State.timerExpires
    dsimp only
    split
    · exact (scrub_sameMap s _).trans (sameMap_chooseScrub _)
    · exact scrub_sameMap s _
  · exact step_refl h

theorem scrubCorrected_step {i : Instr} {s : State} (h : MapLaws s) (fl : FrameLine) (d : Line) :
    MapStep i s (s.scrubCorrected fl d) := by
  have hm := takeOutcome_step (i := i) h fl.frame .corrected
  unfold State.scrubCorrected
  dsimp only
  split
  · exact hm.then_still ((scrub_sameMap _ _).trans (sameMap_request _ _)).still
  · exact hm.then_still (sameMap_endScrub _).still

theorem scrubLost_step {i : Instr} {s : State} (h : MapLaws s) (fl : FrameLine) :
    MapStep i s (s.scrubLost fl) := by
  have hm := takeOutcome_step (i := i) h fl.frame .uncorrectable
  unfold State.scrubLost
  dsimp only
  split
  · next j hj =>
    have hl := (hm.laws.sliceFrame j fl.frame).2 hj
    refine hm.then_still ((addPoison_still _ fun e => ?_).trans (sameMap_endScrub _).still)
    rw [e] at hl; cases hl
  · exact hm.then_still (sameMap_endScrub _).still

theorem scrubReadOutcome_steps {s : State} (h : MapLaws s) (k : Socket) (o : ReadOutcome) :
    Steps (.scrubReadOutcome k o) s := by
  refine ⟨_, rfl, whenOn_step h fun _ => ?_⟩
  split
  · next op _ =>
    have e := sameMap_complete s k op
    split
    · unfold State.scrubRead
      dsimp only
      split
      · exact step_of_same h (e.trans (sameMap_endScrub _))
      · exact e.still.then_step (scrubCorrected_step (e.laws h) _ _)
      · exact e.still.then_step (scrubLost_step (e.laws h) _)
    · exact step_refl h
  · exact step_refl h

theorem scrubWriteBackComplete_steps {s : State} (h : MapLaws s) (k : Socket) :
    Steps (.scrubWriteBackComplete k) s := by
  refine ⟨_, rfl, whenOn_step h fun _ => ?_⟩
  split
  · split
    · exact step_of_same h ((sameMap_complete s k _).trans (sameMap_endScrub _))
    · exact step_refl h
  · exact step_refl h

theorem sameMap_walkWritten (s : State) (f : FrameNo) : SameMap s (s.walkWritten f) := by
  unfold State.walkWritten
  split
  · exact sameMap_walkRequest ..
  · exact sameMap_walkRequest ..

theorem inventoryWriteComplete_steps {s : State} (h : MapLaws s) (k : Socket) :
    Steps (.inventoryWriteComplete k) s := by
  refine ⟨_, rfl, whenOn_step h fun _ => ?_⟩
  split
  · next op _ =>
    split
    · exact step_of_same h ((sameMap_complete s k op).trans (sameMap_walkWritten _ _))
    · exact step_refl h
  · exact step_refl h

theorem walkRead_step {k : Socket} {o : ReadOutcome} {s : State} (h : MapLaws s)
    (hp : s.powered = true) {f : FrameNo} (hw : s.walk.frame = some f) :
    MapStep (.inventoryReadOutcome k o) s (s.walkRead f o) := by
  have e0 := sameMap_countOnly s f o
  obtain ⟨u, hu, e, hup, huw⟩ : ∃ u, u = (if o = .uncorrectable then
      { s.countOnly f o with walk := { (s.countOnly f o).walk with failed := true } }
      else s.countOnly f o) ∧ SameMap s u ∧ u.powered = true ∧ u.walk.frame = some f := by
    refine ⟨_, rfl, ?_⟩
    split
    · refine ⟨e0.trans ?_, e0.powered.trans hp, e0.inTest.trans hw⟩
      constructor <;> intros <;> rfl
    · exact ⟨e0, e0.powered.trans hp, e0.inTest.trans hw⟩
  unfold State.walkRead
  dsimp only
  rw [← hu]
  split
  · exact step_of_same h (e.trans (sameMap_walkRequest _ _ _ _))
  · exact e.still.then_step (testComplete_step (e.laws h) hup huw)

theorem inventoryReadOutcome_steps {s : State} (h : MapLaws s) (k : Socket) (o : ReadOutcome) :
    Steps (.inventoryReadOutcome k o) s := by
  refine ⟨_, rfl, whenOn_step h fun hp => ?_⟩
  split
  · next op _ =>
    have e := sameMap_complete s k op
    split
    · next f _ _ _ hw =>
      exact e.still.then_step (walkRead_step (e.laws h) (e.powered.trans hp) (e.inTest.trans hw))
    · exact step_refl h
  · exact step_refl h

theorem apertureWrite_step {c : Instr} {s : State} (h : MapLaws s) {a : BusAccess}
    {effect : State → State} (he : SameMap s (effect s)) : MapStep c s (s.apertureWrite a effect) := by
  refine whenOn_step h fun _ => ?_
  split
  · refine step_of_same h (he.trans ?_)
    constructor <;> intros <;> rfl
  · refine step_of_same h ?_
    constructor <;> intros <;> rfl

theorem warmRestart_steps {s : State} (h : MapLaws s) : Steps .warmRestart s := by
  refine ⟨_, rfl, whenOn_step h fun _ => ?_⟩
  split
  · exact restart_step h
  · exact step_refl h

theorem submit_sameMap (s : State) : SameMap s s.submit := by
  unfold State.submit
  split <;> constructor <;> intros <;> rfl

theorem writePlain_sameMap (s : State) (r : PlainReg) (v : Word32) : SameMap s (s.writePlain r v) := by
  cases r <;> constructor <;> intros <;> rfl

/-- From every state that meets the map laws, every command short of a power event is a step of the map. -/
theorem exec_steps (c : Instr) {s : State} (h : MapLaws s) (hc : isPowerEvent c = false) :
    Steps c s := by
  have hsame : ∀ {t : State}, exec c s = .next t → SameMap s t → Steps c s :=
    fun ht e => ⟨_, ht, step_of_same h e⟩
  have hrefuse : ∀ {run : CmdWord → State → CmdOut}, (∀ w u, (run w u).state = u) →
      ∀ w u, MapLaws u → u.powered = true → MapStep c u (run w u).state :=
    fun hr w u hu _ => by rw [hr]; exact step_refl hu
  cases c with
  | powerOnReset codes => cases hc
  | powerGoodFall => cases hc
  | warmRestart => exact warmRestart_steps h
  | warmRestartInput active => exact hsame rfl (by constructor <;> intros <;> rfl)
  | warmRestartWrite a v =>
    refine ⟨_, rfl, apertureWrite_step h ?_⟩
    split <;> constructor <;> intros <;> rfl
  | dataPortTransaction i a addr => exact dataPortTransaction_steps h i a addr
  | dataPortReadOutcome k o => exact dataPortReadOutcome_steps h k o
  | dataPortWriteComplete k => exact dataPortWriteComplete_steps h k
  | abandonedOperationComplete k o => exact abandonedOperationComplete_steps h k o
  | arbiterGrant k => exact arbiterGrant_steps h k
  | claimGrant o => exact claimGrant_steps h o
  | lineCopyBegin c => exact lineCopyBegin_steps h c
  | lineCopyReadOutcome k o => exact lineCopyReadOutcome_steps h k o
  | lineCopyComplete k => exact lineCopyComplete_steps h k
  | chainBrokenAbort => exact chainBrokenAbort_steps h
  | dispatchStart => exact dispatchStart_steps h
  | scrubTimerExpiry => exact scrubTimerExpiry_steps h
  | scrubReadOutcome k o => exact scrubReadOutcome_steps h k o
  | scrubWriteBackComplete k => exact scrubWriteBackComplete_steps h k
  | inventoryWriteComplete k => exact inventoryWriteComplete_steps h k
  | inventoryReadOutcome k o => exact inventoryReadOutcome_steps h k o
  | submit a v => exact ⟨_, rfl, apertureWrite_step h (submit_sameMap s)⟩
  | rspPop a v => exact ⟨_, rfl, apertureWrite_step h (by constructor <;> intros <;> rfl)⟩
  | eventsWrite a v => exact ⟨_, rfl, apertureWrite_step h (by constructor <;> intros <;> rfl)⟩
  | eventEnableWrite a v => exact ⟨_, rfl, apertureWrite_step h (by constructor <;> intros <;> rfl)⟩
  | faultEnableWrite a v => exact ⟨_, rfl, apertureWrite_step h (by constructor <;> intros <;> rfl)⟩
  | registerWrite a r v => exact ⟨_, rfl, apertureWrite_step h (writePlain_sameMap s r v)⟩
  | badCommand => exact ⟨_, rfl, takeCommand_step h (hrefuse fun _ _ => rfl)⟩
  | map => exact ⟨_, rfl, takeCommand_step h fun _ _ hu _ => map_step hu⟩
  | unmap => exact ⟨_, rfl, takeCommand_step h fun _ _ hu _ => unmap_step hu⟩
  | setAttr => exact ⟨_, rfl, takeCommand_step h fun _ _ hu _ => setAttrCommand_step hu⟩
  | querySlice =>
    exact ⟨_, rfl, takeCommand_step h (hrefuse fun w u => by unfold querySliceCommand; split <;> rfl)⟩
  | lockMap => exact ⟨_, rfl, takeCommand_step h fun _ _ hu _ => guarded_step hu fun _ _ => lock_step hu⟩
  | queryFrame =>
    exact ⟨_, rfl, takeCommand_step h (hrefuse fun w u => by unfold queryFrameCommand; split <;> rfl)⟩
  | addSpare => exact ⟨_, rfl, takeCommand_step h fun _ _ hu _ => addSpare_step hu⟩
  | withdrawSpare => exact ⟨_, rfl, takeCommand_step h fun _ _ hu _ => withdraw_step hu⟩
  | retire => exact ⟨_, rfl, takeCommand_step h fun _ _ hu _ => retire_step hu⟩
  | clearCounts => exact ⟨_, rfl, takeCommand_step h fun _ _ hu _ => clearCounts_step hu⟩
  | migrate => exact ⟨_, rfl, takeCommand_step h fun _ _ hu _ => migrate_step hu⟩
  | cancel => exact ⟨_, rfl, takeCommand_step h fun _ _ hu _ => cancel_step hu⟩
  | queryChannel =>
    exact ⟨_, rfl, takeCommand_step h (hrefuse fun w u => by unfold queryChannelCommand; split <;> rfl)⟩
  | clearPoison => exact ⟨_, rfl, takeCommand_step h fun _ _ hu _ => clearPoison_step hu⟩
  | queryPoison =>
    exact ⟨_, rfl, takeCommand_step h (hrefuse fun w u => by
      unfold queryPoisonCommand; dsimp only; split <;> rfl)⟩
  | setPolicy => exact ⟨_, rfl, takeCommand_step h fun _ _ hu _ => setPolicy_step hu⟩
  | queryPart =>
    exact ⟨_, rfl, takeCommand_step h (hrefuse fun w u => by
      unfold queryPartCommand; dsimp only; split <;> rfl)⟩
  | adoptDefault => exact ⟨_, rfl, takeCommand_step h fun _ _ hu _ => adoptDefault_step hu⟩
  | importBegin => exact ⟨_, rfl, takeCommand_step h fun _ _ hu _ => importBeginCommand_step hu⟩
  | importRecord => exact ⟨_, rfl, takeCommand_step h fun _ _ hu _ => importRecord_step hu⟩
  | importEnd => exact ⟨_, rfl, takeCommand_step h fun _ _ hu hp => importEnd_step hu hp⟩
  | importAbort => exact ⟨_, rfl, takeCommand_step h fun _ _ hu _ => importAbort_step hu⟩
  | exportBegin => exact ⟨_, rfl, takeCommand_step h fun _ _ hu _ => exportBegin_step hu⟩
  | exportNext => exact ⟨_, rfl, takeCommand_step h fun _ _ hu _ => exportNext_step hu⟩

theorem exec_step {c : Instr} {s t : State} (h : MapLaws s) (hc : isPowerEvent c = false)
    (ht : exec c s = .next t) : MapStep c s t := by
  obtain ⟨u, hu, m⟩ := exec_steps c h hc
  rw [hu] at ht
  cases ht
  exact m

/-- The power events set the laws up from nothing (R122). -/
theorem exec_laws {c : Instr} {s t : State} (h : MapLaws s) (ht : exec c s = .next t) : MapLaws t := by
  cases hc : isPowerEvent c with
  | false => exact (exec_step h hc ht).laws
  | true =>
    cases c with
    | powerOnReset codes => cases ht; exact powerOn_laws _ _ _ _
    | powerGoodFall => cases ht; exact powerOff_laws s
    | _ => cases hc

theorem step_laws {s t : State} (h : MapLaws s) (ht : step s = .next t) : MapLaws t := by
  unfold step at ht
  split at ht
  · cases ht
    refine SameMap.laws (s := s) ?_ h
    constructor <;> intros <;> rfl
  · next rest _ =>
    have e : SameMap s { s with pending := rest } := by constructor <;> intros <;> rfl
    exact exec_laws (e.laws h) ht

end Sys2Proof.Machine.MapProofs

open Sys2Proof Sys2Proof.Machine Sys2Proof.Machine.MapProofs

/-- Settles O48: each command is a step of the map, and each step of the map keeps the laws. -/
theorem everyStepKeepsTheMapConsistent : Obligations.EveryStepKeepsTheMapConsistent :=
  fun _ _ h ht => step_laws h ht

/-- Settles O52. -/
theorem theGenerationCountsMapChanges : Obligations.TheGenerationCountsMapChanges :=
  fun _ _ _ h hc hw ht => (exec_step h hc ht).generation hw

/-- Settles O53. -/
theorem thePhaseChangesAtItsEventsAlone : Obligations.ThePhaseChangesAtItsEventsAlone :=
  fun _ _ _ h hc ht hp => (exec_step h hc ht).phase hp

/-- Settles O54. -/
theorem lastingMarksAndTheLock : Obligations.LastingMarksAndTheLock :=
  ⟨fun _ _ _ h hc ht =>
    have m := (exec_step h hc ht).lasting
    ⟨fun f => ⟨m.suspect f, m.retired f, m.absent f⟩, m.locked⟩,
  fun _ _ _ h hl hp hc ht => (exec_step h hc ht).attributes hl hp⟩

end

section
/-! The commands of the map unit: what each answers, its checks in order (R13 to R19). -/

namespace Sys2Proof.Machine.MapProofs

open Sys2Proof Sys2Proof.Machine Sys2Proof.Machine.Laws

/-! ## Answers of a command that is taken -/

theorem exec_of_takes {c : Instr} {code : Byte} {run : CmdWord → State → CmdOut} {s : State}
    {w : CmdWord} {rest : List CmdWord} {out : CmdOut}
    (hx : exec c s = .next (s.takeCommand (· == code) run)) (ht : Takes s code w rest)
    (h : run w { s with cmdQ := rest } = out) : exec c s = .next (out.respond w) := by
  rw [hx, takeCommand_taken ht _ (by simp), h]

theorem refused_of_takes {c : Instr} {code : Byte} {run : CmdWord → State → CmdOut} {s : State}
    {w : CmdWord} {rest : List CmdWord} {st : Status}
    (hx : exec c s = .next (s.takeCommand (· == code) run)) (ht : Takes s code w rest)
    (h : run w { s with cmdQ := rest } = State.refuse { s with cmdQ := rest } st) :
    Refused c s w rest st :=
  exec_of_takes hx ht h

theorem exec_map (s : State) : exec .map s = .next (s.takeCommand (· == 0x10) mapCommand) := rfl
theorem exec_unmap (s : State) : exec .unmap s = .next (s.takeCommand (· == 0x11) unmapCommand) := rfl
theorem exec_setAttr (s : State) :
    exec .setAttr s = .next (s.takeCommand (· == 0x12) setAttrCommand) := rfl
theorem exec_lockMap (s : State) :
    exec .lockMap s = .next (s.takeCommand (· == 0x14) lockMapCommand) := rfl

/-! ## Phases -/

theorem mem_inService {s : State} : s.phase ∈ [Phase.staged, .active] ↔ inService s := by simp

/-- R147: a command of STAGED and ACTIVE that the map lock stops. -/
theorem guarded_inService {s : State} {run : CmdOut} (hp : inService s) (hl : s.locked = false) :
    s.guarded [.staged, .active] true run = run :=
  guarded_in (mem_inService.2 hp) (.inr hl)

theorem guarded_outOfService {s : State} {run : CmdOut} (hp : ¬inService s) :
    s.guarded [.staged, .active] true run = s.refuse .wrongPhase :=
  guarded_out (mt mem_inService.1 hp)

theorem guarded_inService_locked {s : State} {run : CmdOut} (hp : inService s)
    (hl : s.locked = true) : s.guarded [.staged, .active] true run = s.refuse .locked :=
  guarded_locked (mem_inService.2 hp) hl

/-! ## MAP -/

/-- The frames a MAP's frame field asks for: one frame, or ANY (R179). -/
theorem argFrameOrAny_of {n : Nat} (h : n ≤ 63 ∨ n = 0xFF) : ∃ fa, argFrameOrAny n = some fa := by
  rcases h with h | rfl
  · refine ⟨some ⟨n, by omega⟩, ?_⟩
    simp [argFrameOrAny, argFrame, show n < 64 by omega, show n ≠ 255 by omega]
  · exact ⟨none, rfl⟩

theorem argFrameOrAny_frame {n : Nat} {f : FrameNo} (h : n = f.val) :
    argFrameOrAny n = some (some f) := by
  have : n ≠ 0xFF := by omega
  simp [argFrameOrAny, argFrame_of_eq h, this]

theorem argFrameOrAny_any {n : Nat} (h : n = 0xFF) : argFrameOrAny n = some none := if_pos h

theorem argFrameOrAny_out {n : Nat} (h : ¬(n ≤ 63 ∨ n = 0xFF)) : argFrameOrAny n = none := by
  have h1 : 63 < n := by omega
  have h2 : n ≠ 0xFF := by omega
  simp [argFrameOrAny, argFrame_out h1, h2]

theorem mapCommand_badArg {w : CmdWord} {s : State}
    (h : ¬(byteOf w.cmd1 0 ≤ 47 ∧ (byteOf w.cmd1 1 ≤ 63 ∨ byteOf w.cmd1 1 = 0xFF))) :
    mapCommand w s = s.refuse .badArg := by
  unfold mapCommand
  split
  · next hi hf =>
    refine absurd ⟨?_, ?_⟩ h
    · by_contra hn; rw [argSlice_out (by omega)] at hi; cases hi
    · by_contra hn; rw [argFrameOrAny_out hn] at hf; cases hf
  · rfl

/-- Check 6 of R13, for a frame that MAP may bind. -/
theorem chooseMapFrame_of {s : State} {n : Nat} {f : FrameNo}
    (hf : n = f.val ∨ n = 0xFF ∧ (s.frame f).state = .free ∧
      ∀ g : FrameNo, g < f → (s.frame g).state ≠ .free)
    (hs : (s.frame f).state = .free ∨ (s.frame f).state = .spare) :
    ∃ fa, argFrameOrAny n = some fa ∧ s.chooseMapFrame fa = .ok f := by
  rcases hf with hf | ⟨hn, hfree, hlow⟩
  · exact ⟨_, argFrameOrAny_frame hf, if_pos hs⟩
  · refine ⟨_, argFrameOrAny_any hn, ?_⟩
    have : (List.finRange 64).find? (fun g => (s.frame g).state == .free) = some f :=
      find_finRange_some.2 ⟨by simpa using hfree, fun g hg => by simpa using hlow g hg⟩
    simp only [State.chooseMapFrame, this]

theorem chooseMapFrame_noFrame {s : State} (h : ∀ f : FrameNo, (s.frame f).state ≠ .free) :
    s.chooseMapFrame none = .error .noFrame := by
  have : (List.finRange 64).find? (fun g => (s.frame g).state == .free) = none :=
    find_finRange_none.2 fun f => by simpa using h f
  simp only [State.chooseMapFrame, this]

/-- R14: what MAP leaves of a state in service, with the queue `q` that the frame's state gives. -/
theorem bindSlice_inService {s : State} {f : FrameNo} {q : List FrameNo} (hp : inService s)
    (hq : (s.frame f).state = .free ∧ q = s.spareQ ∨
      (s.frame f).state = .spare ∧ q = s.spareQ.erase f) (i : SliceNo) (p : Bool) (d : DomainSet) :
    s.bindSlice i f p d =
      { s with
        slices := s.slices.set i { loc := .mapped f, protect := p, domain := d }
        frames := s.frames.set f { s.frame f with state := .bound i }
        spareQ := q
        flags := s.flags ||| (if (s.frame f).state = .spare then s.removalFlags q else 0)
        phase := .active
        generation := s.generation + 1 } := by
  have hphase : (if s.phase = Phase.staged then Phase.active else s.phase) = Phase.active := by
    rcases hp with hp | hp <;> simp [hp]
  rw [bindSlice_eq, hphase]
  rcases hq with ⟨hf, rfl⟩ | ⟨hf, rfl⟩
  · simp [hf]
  · simp [hf]

/-- MAP's answer in a state in service whose map is not locked, by the slice's record (R13). -/
theorem mapCommand_guarded {w : CmdWord} {s : State} {i : SliceNo} {fa : Option FrameNo}
    (hi : byteOf w.cmd1 0 = i.val) (hf : argFrameOrAny (byteOf w.cmd1 1) = some fa) :
    ∃ run, mapCommand w s = s.guarded [.staged, .active] true run ∧
      (∀ f c, (s.slice i).loc = .migrating f c → run = s.refuse .busy) ∧
      (∀ f, (s.slice i).loc = .mapped f → run = s.refuse .wrongState) ∧
      ((s.slice i).loc = .unmapped →
        (∀ st, s.chooseMapFrame fa = .error st → run = s.refuse st) ∧
        ∀ f, s.chooseMapFrame fa = .ok f →
          run = (s.bindSlice i f (argProtect (byteOf w.cmd2 0)) (argDomain (byteOf w.cmd2 1))).done
            (word4 i.val f.val 0 0) 0) := by
  unfold mapCommand
  rw [argSlice_of_eq hi, hf]
  refine ⟨_, rfl, fun f c h => ?_, fun f h => ?_, fun h => ⟨fun st hst => ?_, fun f hok => ?_⟩⟩
  · rw [h]
  · rw [h]
  · rw [h]; dsimp only; rw [hst]
  · rw [h]; dsimp only; rw [hok]

/-! ## UNMAP -/

theorem unmapCommand_guarded {w : CmdWord} {s : State} {i : SliceNo}
    (hi : byteOf w.cmd1 0 = i.val) :
    ∃ run, unmapCommand w s = s.guarded [.staged, .active] true run ∧
      (∀ f c, (s.slice i).loc = .migrating f c → run = s.refuse .busy) ∧
      ((s.slice i).loc = .unmapped → run = s.refuse .wrongState) ∧
      ∀ f, (s.slice i).loc = .mapped f →
        run = ⟨.ok, word4 f.val ((s.unbindSlice i f).frame f).state.code (s.poisonOf i) 0, 0, 0,
          s.unbindSlice i f⟩ := by
  unfold unmapCommand
  rw [argSlice_of_eq hi]
  refine ⟨_, rfl, fun f c h => ?_, fun h => ?_, fun f h => ?_⟩
  · rw [h]
  · rw [h]
  · rw [h]

theorem unbindSlice_clean {s : State} {f : FrameNo} (h : (s.frame f).suspect = none) (i : SliceNo) :
    s.unbindSlice i f =
      { s with
        slices := s.slices.set i { s.slice i with loc := .unmapped }
        frames := s.frames.set f { s.frame f with state := .free }
        poison := s.poison.filter fun e => e.1 != i
        generation := s.generation + 1 } := by
  simp [unbindSlice_eq, h]

theorem unbindSlice_suspect {s : State} {f : FrameNo} {c : Cause}
    (h : (s.frame f).suspect = some c) (i : SliceNo) :
    s.unbindSlice i f =
      { s with
        slices := s.slices.set i { s.slice i with loc := .unmapped }
        frames := s.frames.set f { s.frame f with state := .retired }
        retireQ := s.retireQWithout f
        poison := s.poison.filter fun e => e.1 != i
        flags := s.flags ||| Flag.frameRetired.mask
        generation := s.generation + 1 } := by
  simp [unbindSlice_eq, h]

/-! ## SET_ATTR -/

theorem setAttrCommand_guarded {w : CmdWord} {s : State} {i : SliceNo}
    (hi : byteOf w.cmd1 0 = i.val) {p : Bool} {d : DomainSet} (hp : p = argProtect (byteOf w.cmd2 0))
    (hd : d = argDomain (byteOf w.cmd2 1)) :
    setAttrCommand w s = s.guarded [.staged, .active] true
      (((s.setSlice i { s.slice i with protect := p, domain := d }).bumpIf
        ((s.slice i).protect != p || (s.slice i).domain != d)).done
        (word4 i.val 0 p.toNat d.toNat) 0) := by
  subst hp hd
  unfold setAttrCommand
  rw [argSlice_of_eq hi]

/-- R19: the generation advances exactly if one of the attributes changes. -/
theorem setAttr_eq {s : State} {i : SliceNo} {p : Bool} {d : DomainSet} {g : BitVec 16}
    (hg : ((s.slice i).protect = p ∧ (s.slice i).domain = d) ∧ g = s.generation ∨
      ¬((s.slice i).protect = p ∧ (s.slice i).domain = d) ∧ g = s.generation + 1) :
    (s.setSlice i { s.slice i with protect := p, domain := d }).bumpIf
        ((s.slice i).protect != p || (s.slice i).domain != d) =
      { s with
        slices := s.slices.set i { s.slice i with protect := p, domain := d }
        generation := g } := by
  have hb : ((s.slice i).protect != p || (s.slice i).domain != d) = true ↔
      ¬((s.slice i).protect = p ∧ (s.slice i).domain = d) := by
    rw [Bool.or_eq_true, bne_iff_ne, bne_iff_ne, not_and_or]
  unfold State.bumpIf
  rcases hg with ⟨h, rfl⟩ | ⟨h, rfl⟩
  · rw [if_neg (mt hb.1 (not_not.2 h))]; rfl
  · rw [if_pos (hb.2 h)]; rfl

end Sys2Proof.Machine.MapProofs

open Sys2Proof Sys2Proof.Machine Sys2Proof.Machine.Laws Sys2Proof.Machine.MapProofs

/-- Settles O1. -/
theorem mapBindsAFreeOrSpareFrame : Obligations.MapBindsAFreeOrSpareFrame := by
  intro s w rest ht
  refine ⟨fun h => refused_of_takes (exec_map s) ht (mapCommand_badArg h), fun i hi hfr => ?_⟩
  obtain ⟨fa, hfa⟩ := argFrameOrAny_of hfr
  obtain ⟨run, hrun, hmig, hmap, hunm⟩ := mapCommand_guarded (s := { s with cmdQ := rest }) hi hfa
  refine ⟨fun hp => refused_of_takes (exec_map s) ht (hrun.trans (guarded_outOfService hp)),
    fun hp hl => refused_of_takes (exec_map s) ht (hrun.trans (guarded_inService_locked hp hl)),
    fun hp hl => ?_⟩
  have hin := hrun.trans (guarded_inService hp hl)
  refine ⟨fun f c h => refused_of_takes (exec_map s) ht (hin.trans (hmig f c h)),
    fun f h => refused_of_takes (exec_map s) ht (hin.trans (hmap f h)), fun hloc => ?_⟩
  obtain ⟨herr, hok⟩ := hunm hloc
  refine ⟨fun f hf h1 h2 => ?_, fun hany hnone => ?_, fun f q hf hq => ?_⟩
  · rw [argFrameOrAny_frame hf] at hfa
    cases hfa
    have := herr .wrongState (if_neg fun h => h.elim h1 h2)
    exact refused_of_takes (exec_map s) ht (hin.trans this)
  · rw [argFrameOrAny_any hany] at hfa
    cases hfa
    have := herr .noFrame (chooseMapFrame_noFrame hnone)
    exact refused_of_takes (exec_map s) ht (hin.trans this)
  · obtain ⟨fb, hfb, hch⟩ := chooseMapFrame_of (s := { s with cmdQ := rest }) hf
      (hq.elim (fun h => .inl h.1) fun h => .inr h.1)
    cases hfa.symm.trans hfb
    have hout := hin.trans (hok f hch)
    rw [bindSlice_inService (s := { s with cmdQ := rest }) hp hq] at hout
    exact exec_of_takes (exec_map s) ht hout

/-- Settles O2. -/
theorem unmapReleasesTheSourceFrame : Obligations.UnmapReleasesTheSourceFrame := by
  intro s w rest ht
  refine ⟨fun h => refused_of_takes (exec_unmap s) ht (by rw [unmapCommand, argSlice_out h]),
    fun i hi => ?_⟩
  obtain ⟨run, hrun, hmig, hunm, hmap⟩ := unmapCommand_guarded (s := { s with cmdQ := rest }) hi
  refine ⟨fun hp => refused_of_takes (exec_unmap s) ht (hrun.trans (guarded_outOfService hp)),
    fun hp hl => refused_of_takes (exec_unmap s) ht (hrun.trans (guarded_inService_locked hp hl)),
    fun hp hl => ?_⟩
  have hin := hrun.trans (guarded_inService hp hl)
  refine ⟨fun f c h => refused_of_takes (exec_unmap s) ht (hin.trans (hmig f c h)),
    fun h => refused_of_takes (exec_unmap s) ht (hin.trans (hunm h)), fun f hloc => ?_⟩
  have hcmd := hin.trans (hmap f hloc)
  rw [unbindSlice_frame, if_pos rfl] at hcmd
  refine ⟨fun hs => ?_, fun cause hs => ?_⟩
  · have hs' : (State.frame { s with cmdQ := rest } f).suspect = none := hs
    rw [hs', unbindSlice_clean hs'] at hcmd
    exact exec_of_takes (exec_unmap s) ht hcmd
  · have hs' : (State.frame { s with cmdQ := rest } f).suspect = some cause := hs
    rw [hs', unbindSlice_suspect hs'] at hcmd
    exact exec_of_takes (exec_unmap s) ht hcmd

/-- Settles O3. -/
theorem attributesAndTheMapLockAreSet : Obligations.AttributesAndTheMapLockAreSet := by
  refine ⟨fun s w rest ht => ⟨fun h => refused_of_takes (exec_setAttr s) ht
    (by rw [setAttrCommand, argSlice_out h]), fun i hi => ?_⟩, fun s w rest ht => ?_⟩
  · have hrun := setAttrCommand_guarded (s := { s with cmdQ := rest }) hi rfl rfl
    refine ⟨fun hp => refused_of_takes (exec_setAttr s) ht (hrun.trans (guarded_outOfService hp)),
      fun hp hl => refused_of_takes (exec_setAttr s) ht
        (hrun.trans (guarded_inService_locked hp hl)), fun hp hl p d g hpr hd hg => ?_⟩
    have hcmd := (setAttrCommand_guarded (s := { s with cmdQ := rest }) hi hpr hd).trans
      (guarded_inService hp hl)
    rw [setAttr_eq (s := { s with cmdQ := rest }) hg] at hcmd
    exact exec_of_takes (exec_setAttr s) ht hcmd
  · refine ⟨fun hp => ?_, fun hp => ?_⟩
    · exact refused_of_takes (exec_lockMap s) ht (guarded_out (by simp [hp]))
    · exact exec_of_takes (exec_lockMap s) ht
        (guarded_in (by cases h : s.phase <;> simp_all) (.inl rfl))

end

section
/-! The queries (R21, R40, R71, R86, R152, R153): each reads the state and leaves it. -/

namespace Sys2Proof.Machine.MapProofs

open Sys2Proof Sys2Proof.Machine Sys2Proof.Machine.Laws

theorem exec_querySlice (s : State) :
    exec .querySlice s = .next (s.takeCommand (· == 0x13) querySliceCommand) := rfl
theorem exec_queryFrame (s : State) :
    exec .queryFrame s = .next (s.takeCommand (· == 0x20) queryFrameCommand) := rfl
theorem exec_queryChannel (s : State) :
    exec .queryChannel s = .next (s.takeCommand (· == 0x32) queryChannelCommand) := rfl
theorem exec_queryPoison (s : State) :
    exec .queryPoison s = .next (s.takeCommand (· == 0x41) queryPoisonCommand) := rfl
theorem exec_queryPart (s : State) :
    exec .queryPart s = .next (s.takeCommand (· == 0x51) queryPartCommand) := rfl

section
variable {w : CmdWord} {s : State}

/-- R21: state, source and migrating channel in QUERY_SLICE's words. -/
theorem querySliceCommand_eq {i : SliceNo} {st src ch : Nat} (hi : byteOf w.cmd1 0 = i.val)
    (h : (s.slice i).loc = .unmapped ∧ st = 0 ∧ src = 0xFF ∧ ch = 0xFF ∨
      (∃ f, (s.slice i).loc = .mapped f ∧ st = 1 ∧ src = f.val ∧ ch = 0xFF) ∨
      ∃ f c, (s.slice i).loc = .migrating f c ∧ st = 2 ∧ src = f.val ∧ ch = c.val) :
    querySliceCommand w s =
      s.done (word4 st src (s.slice i).protect.toNat (s.slice i).domain.toNat)
        (word4 ch (s.poison.countP fun e => e.1 == i) 0 0) := by
  unfold querySliceCommand
  rw [argSlice_of_eq hi]
  rcases h with ⟨hl, rfl, rfl, rfl⟩ | ⟨f, hl, rfl, rfl, rfl⟩ | ⟨f, c, hl, rfl, rfl, rfl⟩
  · dsimp only; rw [hl]; rfl
  · dsimp only; rw [hl]; rfl
  · dsimp only; rw [hl]; rfl

/-- R40: a frame's slice, as QUERY_FRAME reports it. -/
theorem frameSlice_eq {r : FrameRec} {n : Nat}
    (h : (∃ i, r.state = .bound i ∧ n = i.val) ∨ r.state.isBound = false ∧ n = 0xFF) :
    orNone (r.state.slice.map Fin.val) = n := by
  rcases h with ⟨i, hi, rfl⟩ | ⟨hb, rfl⟩
  · rw [hi]; rfl
  · cases hs : r.state <;> simp_all [FrameState.slice, FrameState.isBound, orNone]

/-- R40: a frame's position in the spare queue. -/
theorem sparePos_eq {q : List FrameNo} {f : FrameNo} {n : Nat}
    (h : f ∈ q ∧ n = q.idxOf f ∨ f ∉ q ∧ n = 0xFF) : orNone (posIn q f) = n := by
  rcases h with ⟨hm, rfl⟩ | ⟨hm, rfl⟩
  · simp [posIn, hm, orNone]
  · simp [posIn, hm, orNone]

/-- R40: a frame's position in the retire queue, or the code for waiting outside it. -/
theorem retirePos_eq {f : FrameNo} {n : Nat}
    (h : f ∈ s.retireQ ∧ n = s.retireQ.idxOf f ∨ f ∉ s.retireQ ∧ s.suspectBound f ∧ n = 0xFE ∨
      f ∉ s.retireQ ∧ ¬s.suspectBound f ∧ n = 0xFF) : s.retirePos f = n := by
  have hw : s.waitsUnqueued f = true ↔ s.suspectBound f ∧ f ∉ s.retireQ := by
    simp [State.waitsUnqueued, State.suspectBound]
  unfold State.retirePos
  rcases h with ⟨hm, rfl⟩ | ⟨hm, hb, rfl⟩ | ⟨hm, hb, rfl⟩
  · rw [if_neg fun h => (hw.1 h).2 hm]
    simp [posIn, hm, orNone]
  · exact if_pos (hw.2 ⟨hb, hm⟩)
  · rw [if_neg fun h => hb (hw.1 h).1]
    simp [posIn, hm, orNone]

/-- R40: the channel of a TARGET frame. -/
theorem frameChan_eq {f : FrameNo} {n : Nat}
    (h : (∃ c, (s.frame f).state = .target ∧ s.targetChan f = some c ∧ n = c.val) ∨
      ((s.frame f).state ≠ .target ∨ s.targetChan f = none) ∧ n = 0xFF) :
    orNone ((if (s.frame f).state = .target then s.targetChan f else none).map Fin.val) = n := by
  rcases h with ⟨c, ht, hc, rfl⟩ | ⟨ht | hc, rfl⟩
  · rw [if_pos ht, hc]; rfl
  · rw [if_neg ht]; rfl
  · rw [hc, ite_self]; rfl

theorem queryFrameCommand_eq {f : FrameNo} {slice spare retire chan : Nat}
    (hf : byteOf w.cmd1 1 = f.val)
    (hslice : orNone ((s.frame f).state.slice.map Fin.val) = slice)
    (hspare : orNone (posIn s.spareQ f) = spare) (hretire : s.retirePos f = retire)
    (hchan : orNone ((if (s.frame f).state = .target then s.targetChan f else none).map Fin.val) =
      chan) :
    queryFrameCommand w s =
      s.done (word4 (s.frame f).state.code slice (causeCode (s.frame f).suspect)
        (s.frame f).corrected) (word4 (s.frame f).uncorrectable spare retire chan) := by
  subst hslice hspare hretire hchan
  unfold queryFrameCommand
  rw [argFrame_of_eq hf]

theorem queryChannelCommand_idle {c : ChanNo} (hc : byteOf w.cmd1 2 = c.val)
    (h : (s.chan c).state = .idle) :
    queryChannelCommand w s =
      ⟨.ok, word4 0 (s.chan c).last.code 0xFF 0xFF, 0, word2 s.generation.toNat 0xFF, s⟩ := by
  unfold queryChannelCommand
  rw [argChan_of_eq hc]
  simp [h, State.chanFlags, ChanState.migration, ChanState.code, ChanState.source, orNone]
  rfl

/-- R71: the words for a channel ARMED or RUNNING. -/
theorem queryChannelCommand_migration {c : ChanNo} (hc : byteOf w.cmd1 2 = c.val) {m : Migration}
    {st src after : Nat} (hm : (s.chan c).state.migration = some m)
    (hst : (s.chan c).state = .armed m ∧ st = 1 ∧ src = 0xFF ∨
      ∃ f, (s.chan c).state = .running m f ∧ st = 2 ∧ src = f.val)
    (ha : m.after = none ∧ after = 0 ∨ ∃ j, m.after = some j ∧ after = 8 + 16 * j.val) :
    queryChannelCommand w s =
      ⟨.ok, word4 st (s.chan c).last.code m.slice.val m.target.val, word2 m.cursor m.poisoned,
        word2 s.generation.toNat (src + 256 * (m.origin.code + 2 * m.by_.code +
          4 * (if s.claimedLine c = none then 0 else 1) + after)), s⟩ := by
  have hcode : (s.chan c).state.code = st ∧ orNone ((s.chan c).state.source.map Fin.val) = src := by
    rcases hst with ⟨h, rfl, rfl⟩ | ⟨f, h, rfl, rfl⟩
    · rw [h]; exact ⟨rfl, rfl⟩
    · rw [h]; exact ⟨rfl, rfl⟩
  have hclaim : (s.claimedLine c).isSome.toNat = if s.claimedLine c = none then 0 else 1 := by
    cases s.claimedLine c <;> rfl
  have hflags : s.chanFlags c = m.origin.code + 2 * m.by_.code +
      4 * (if s.claimedLine c = none then 0 else 1) + after := by
    unfold State.chanFlags
    rw [hm, ← hclaim]
    rcases ha with ⟨h, rfl⟩ | ⟨j, h, rfl⟩
    · dsimp only; rw [h]
    · dsimp only; rw [h]
  unfold queryChannelCommand
  rw [argChan_of_eq hc]
  dsimp only
  rw [hm, hcode.1, hcode.2, hflags]
  rfl

theorem queryPoisonCommand_entry {i : SliceNo} {l : LineNo} (hn : byteOf w.cmd1 0 ≤ 31)
    (he : s.poison[byteOf w.cmd1 0]? = some (i, l)) :
    queryPoisonCommand w s = s.done (word4 i.val 0 s.poison.length 0) (word2 l.val 0) := by
  unfold queryPoisonCommand
  dsimp only
  rw [if_pos (show _ < Config.poisonCapacity from Nat.lt_succ_of_le hn), he]
  rfl

theorem queryPoisonCommand_past (hn : byteOf w.cmd1 0 ≤ 31)
    (he : s.poison.length ≤ byteOf w.cmd1 0) :
    queryPoisonCommand w s = s.done (word4 0xFF 0 s.poison.length 0) 0 := by
  unfold queryPoisonCommand
  dsimp only
  rw [if_pos (show _ < Config.poisonCapacity from Nat.lt_succ_of_le hn), List.getElem?_eq_none he]
  rfl

theorem queryPoisonCommand_out (hn : 31 < byteOf w.cmd1 0) :
    queryPoisonCommand w s = s.refuse .badArg := if_neg (Nat.not_lt.2 hn)

theorem queryPartCommand_out (hn : 1 < byteOf w.cmd1 0) :
    queryPartCommand w s = s.refuse .badArg := by
  unfold queryPartCommand
  split
  · omega
  · omega
  · rfl

end

end Sys2Proof.Machine.MapProofs

open Sys2Proof Sys2Proof.Machine Sys2Proof.Machine.Laws Sys2Proof.Machine.MapProofs

/-- Settles O4. -/
theorem queriesReportWhatStands : Obligations.QueriesReportWhatStands := by
  refine ⟨fun s w rest => ⟨fun ht => ⟨fun h => ?_, fun i hi st src ch h => ?_⟩,
    fun ht => ⟨fun h => ?_, fun f hf slice spare retire chan h1 h2 h3 h4 => ?_⟩,
    fun ht => ⟨fun h => ?_, fun c hc => ⟨fun h => ?_, fun m st src after hm hst ha => ?_⟩⟩⟩,
    fun s w rest => ⟨fun ht => ⟨fun h => ?_, fun i l hn he => ?_, fun hn he => ?_⟩,
      fun ht => ⟨fun h => ?_, fun h => ?_, fun h => ?_⟩⟩⟩
  · exact refused_of_takes (exec_querySlice s) ht (by rw [querySliceCommand, argSlice_out h])
  · exact exec_of_takes (exec_querySlice s) ht (querySliceCommand_eq hi h)
  · exact refused_of_takes (exec_queryFrame s) ht (by rw [queryFrameCommand, argFrame_out h])
  · exact exec_of_takes (exec_queryFrame s) ht (queryFrameCommand_eq hf (frameSlice_eq h1)
      (sparePos_eq h2) (retirePos_eq h3) (frameChan_eq h4))
  · exact refused_of_takes (exec_queryChannel s) ht (by rw [queryChannelCommand, argChan_out h])
  · exact exec_of_takes (exec_queryChannel s) ht (queryChannelCommand_idle hc h)
  · exact exec_of_takes (exec_queryChannel s) ht (queryChannelCommand_migration hc hm hst ha)
  · exact refused_of_takes (exec_queryPoison s) ht (queryPoisonCommand_out h)
  · exact exec_of_takes (exec_queryPoison s) ht (queryPoisonCommand_entry hn he)
  · exact exec_of_takes (exec_queryPoison s) ht (queryPoisonCommand_past hn he)
  · exact refused_of_takes (exec_queryPart s) ht (queryPartCommand_out h)
  · exact exec_of_takes (exec_queryPart s) ht (by rw [queryPartCommand, h])
  · exact exec_of_takes (exec_queryPart s) ht (by rw [queryPartCommand, h])

end

section
/-! The command unit: which word is taken, and the checks of phase and lock (R121, R141, R147). -/

namespace Sys2Proof.Machine.MapProofs

open Sys2Proof Sys2Proof.Machine Sys2Proof.Machine.Laws

/-- R141: nothing is taken without power, a word of the row's code at the head, and room. -/
theorem takeCommand_not_taken {s : State} {code : Byte} {run : CmdWord → State → CmdOut}
    (h : s.powered = false ∨ s.cmdQ = [] ∨ Config.responseCapacity ≤ s.rspQ.length ∨
      ∃ w rest, s.cmdQ = w :: rest ∧ cmdCode w ≠ code) :
    s.takeCommand (· == code) run = s := by
  unfold State.takeCommand State.whenOn
  split
  · next hp =>
    split
    · rfl
    · next w rest hq =>
      refine if_neg fun ht => ?_
      obtain ⟨hc, hr⟩ : cmdCode w = code ∧ s.rspQ.length < Config.responseCapacity := by
        simpa using ht
      rcases h with h | h | h | ⟨w', rest', h, hne⟩
      · rw [h] at hp; cases hp
      · rw [h] at hq; cases hq
      · exact absurd hr (Nat.not_lt.2 h)
      · rw [h] at hq; cases hq; exact hne hc
  · rfl

/-- R147, R12: out of its phases a command is refused by its arguments or by the phase; under the
lock, if the lock stops it, by its arguments or by the lock. -/
def ChecksInTurn (run : CmdWord → State → CmdOut) (phases : List Phase) (lockable : Bool) : Prop :=
  ∀ w s,
    (s.phase ∉ phases → run w s = s.refuse .badArg ∨ run w s = s.refuse .wrongPhase) ∧
    (s.phase ∈ phases → lockable = true → s.locked = true →
      run w s = s.refuse .badArg ∨ run w s = s.refuse .locked)

theorem checks_of_guarded {run : CmdWord → State → CmdOut} {ps : List Phase} {b : Bool}
    (h : ∀ w s, run w s = s.refuse .badArg ∨ ∃ out, run w s = s.guarded ps b out) :
    ChecksInTurn run ps b := by
  intro w s
  rcases h w s with hbad | ⟨out, hout⟩
  · exact ⟨fun _ => .inl hbad, fun _ _ _ => .inl hbad⟩
  · refine ⟨fun hp => .inr (hout.trans (guarded_out hp)), fun hp hb hl => .inr ?_⟩
    subst hb
    exact hout.trans (guarded_locked hp hl)

/-- The queries and SET_POLICY are taken in every phase. -/
theorem checks_everywhere (run : CmdWord → State → CmdOut) :
    ChecksInTurn run [.inventory, .staged, .importing, .active] false := by
  intro w s
  refine ⟨fun hp => absurd ?_ hp, fun _ hb => by cases hb⟩
  cases s.phase <;> simp

theorem map_checks : ChecksInTurn mapCommand [.staged, .active] true :=
  checks_of_guarded fun _ _ => by unfold mapCommand; split; exacts [.inr ⟨_, rfl⟩, .inl rfl]

theorem unmap_checks : ChecksInTurn unmapCommand [.staged, .active] true :=
  checks_of_guarded fun _ _ => by unfold unmapCommand; split; exacts [.inr ⟨_, rfl⟩, .inl rfl]

theorem setAttr_checks : ChecksInTurn setAttrCommand [.staged, .active] true :=
  checks_of_guarded fun _ _ => by unfold setAttrCommand; split; exacts [.inr ⟨_, rfl⟩, .inl rfl]

theorem addSpare_checks : ChecksInTurn addSpareCommand [.active] false :=
  checks_of_guarded fun _ _ => by unfold addSpareCommand; split; exacts [.inr ⟨_, rfl⟩, .inl rfl]

theorem withdrawSpare_checks : ChecksInTurn withdrawSpareCommand [.active] false :=
  checks_of_guarded fun _ _ => by unfold withdrawSpareCommand; split; exacts [.inr ⟨_, rfl⟩, .inl rfl]

theorem retire_checks : ChecksInTurn retireCommand [.staged, .active] false :=
  checks_of_guarded fun _ _ => by unfold retireCommand; split; exacts [.inr ⟨_, rfl⟩, .inl rfl]

theorem clearCounts_checks : ChecksInTurn clearCountsCommand [.staged, .importing, .active] false :=
  checks_of_guarded fun _ _ => by unfold clearCountsCommand; split; exacts [.inr ⟨_, rfl⟩, .inl rfl]

theorem migrate_checks : ChecksInTurn migrateCommand [.active] false :=
  checks_of_guarded fun _ _ => by unfold migrateCommand; split; exacts [.inr ⟨_, rfl⟩, .inl rfl]

theorem cancel_checks : ChecksInTurn cancelCommand [.active] false :=
  checks_of_guarded fun _ _ => by unfold cancelCommand; split; exacts [.inr ⟨_, rfl⟩, .inl rfl]

theorem clearPoison_checks : ChecksInTurn clearPoisonCommand [.staged, .active] true :=
  checks_of_guarded fun _ _ => by unfold clearPoisonCommand; split; exacts [.inr ⟨_, rfl⟩, .inl rfl]

/-- R161: out of IMPORTING an import record ends no session. -/
theorem importRecord_checks : ChecksInTurn importRecordCommand [.importing] false := by
  intro w s
  refine ⟨fun hp => ?_, fun _ hb => by cases hb⟩
  unfold importRecordCommand
  dsimp only
  split
  · left
    split
    · next h _ => exact absurd (by simp [h]) hp
    · rfl
  · exact .inr (guarded_out hp)

/-- What a row of R121's table means: the command is taken at the head of its code, and checks phase
and lock. -/
def RowChecks (r : CommandRow) : Prop :=
  ∃ run, (∀ s, exec r.instr s = .next (s.takeCommand (· == r.code) run)) ∧
    ChecksInTurn run r.phases r.lockable

theorem commandTable_rowChecks : ∀ r ∈ commandTable, RowChecks r := by
  simp only [commandTable, List.forall_mem_cons]
  exact ⟨⟨_, exec_querySlice, checks_everywhere _⟩, ⟨_, exec_queryFrame, checks_everywhere _⟩,
    ⟨_, exec_queryChannel, checks_everywhere _⟩, ⟨_, exec_queryPoison, checks_everywhere _⟩,
    ⟨_, exec_queryPart, checks_everywhere _⟩, ⟨setPolicyCommand, fun _ => rfl, checks_everywhere _⟩,
    ⟨_, exec_lockMap, checks_of_guarded fun _ _ => .inr ⟨_, rfl⟩⟩,
    ⟨_, fun _ => rfl, clearCounts_checks⟩,
    ⟨_, exec_map, map_checks⟩, ⟨_, exec_unmap, unmap_checks⟩, ⟨_, exec_setAttr, setAttr_checks⟩,
    ⟨_, fun _ => rfl, retire_checks⟩, ⟨_, fun _ => rfl, clearPoison_checks⟩,
    ⟨adoptDefaultCommand, fun _ => rfl, checks_of_guarded fun _ _ => .inr ⟨_, rfl⟩⟩,
    ⟨importBeginCommand, fun _ => rfl, checks_of_guarded fun _ _ => .inr ⟨_, rfl⟩⟩,
    ⟨_, fun _ => rfl, importRecord_checks⟩,
    ⟨importEndCommand, fun _ => rfl, checks_of_guarded fun _ _ => .inr ⟨_, rfl⟩⟩,
    ⟨importAbortCommand, fun _ => rfl, checks_of_guarded fun _ _ => .inr ⟨_, rfl⟩⟩,
    ⟨exportBeginCommand, fun _ => rfl, checks_of_guarded fun _ _ => .inr ⟨_, rfl⟩⟩,
    ⟨exportNextCommand, fun _ => rfl, checks_of_guarded fun _ _ => .inr ⟨_, rfl⟩⟩,
    ⟨_, fun _ => rfl, addSpare_checks⟩, ⟨_, fun _ => rfl, withdrawSpare_checks⟩,
    ⟨_, fun _ => rfl, migrate_checks⟩, ⟨_, fun _ => rfl, cancel_checks⟩, nofun⟩

/-- A code that is none of R179's numbers is none of the known codes. -/
theorem not_knownCode {code : Byte} (h : code.toNat ∉ knownCodes.map BitVec.toNat) :
    (!knownCodes.contains code) = true := by
  simpa using fun hc => h (List.mem_map_of_mem hc)

end Sys2Proof.Machine.MapProofs

open Sys2Proof Sys2Proof.Machine Sys2Proof.Machine.Laws Sys2Proof.Machine.MapProofs

/-- Settles O11: each row of the table is the command unit's taking of a command that checks its
arguments, then the phase, then the lock. -/
theorem commandsAreCheckedInTurn : Obligations.CommandsAreCheckedInTurn := by
  refine ⟨fun s code w rest ht hc => ?_, fun r hr s h => ?_, fun r hr s w rest ht => ?_⟩
  · exact congrArg _ (takeCommand_taken ht (fun c => !knownCodes.contains c) (not_knownCode hc) badCommand)
  · obtain ⟨run, hx, -⟩ := commandTable_rowChecks r hr
    rw [hx, takeCommand_not_taken h]
  · obtain ⟨run, hx, hrun⟩ := commandTable_rowChecks r hr
    obtain ⟨hphase, hlock⟩ := hrun w { s with cmdQ := rest }
    exact ⟨fun hp => (hphase hp).imp (refused_of_takes (hx s) ht) (refused_of_takes (hx s) ht),
      fun hp hb hl => (hlock hp hb hl).imp (refused_of_takes (hx s) ht) (refused_of_takes (hx s) ht)⟩

end

section
/-! The data port: the checks of a transaction, and where it is steered (R87 to R97). -/

namespace Sys2Proof.Machine.MapProofs

open Sys2Proof Sys2Proof.Machine Sys2Proof.Machine.Laws

/-! ## Taking a transaction -/

section
variable {s : State} {i : Initiator} {a : PortAccess} {addr : Nat}

theorem exec_transaction_taken (hp : s.powered = true) (hi : (s.port i).txn = .idle) :
    exec (.dataPortTransaction i a addr) s = .next (s.takeTransaction i a addr) := by
  show Host.Outcome.next (s.whenOn _) = _
  rw [State.whenOn, if_pos hp, if_pos hi]

theorem exec_transaction_outstanding (hi : (s.port i).txn ≠ .idle) :
    exec (.dataPortTransaction i a addr) s = .next s := by
  show Host.Outcome.next (s.whenOn _) = _
  rw [if_neg hi, State.whenOn, ite_self]

/-- The port as a taken transaction finds it: no answer stands (R87). -/
def cleared (s : State) (i : Initiator) : State := s.setPort i { txn := .idle, answer := none }

theorem cleared_answer (r : PortResp) (d : PortData) :
    (cleared s i).answer i r d =
      { s with ports := s.ports.set i { txn := .idle, answer := some { resp := r, data := d } } } := by
  simp [cleared, State.answer, State.setPort]

theorem takeTransaction_decoded {op : TxnOp} {sl : SliceNo} {l : LineNo}
    (hop : decodeAccess addr a = some op) (hs : addr / 0x400000 = sl.val)
    (hl : addr % 0x400000 / 256 = l.val) :
    s.takeTransaction i a addr =
      (cleared s i).checkAndSteer i { op := op, slice := sl, line := l } := by
  have hsl : addrSlice addr = some sl := by simp [addrSlice, hs]
  have hline : addrLine addr = l := Fin.ext hl
  unfold State.takeTransaction
  dsimp only
  rw [hop, hsl, hline]
  rfl

theorem decodeAccess_isSome (h : ∀ wr, a ≠ .otherSize wr) : ∃ op, decodeAccess addr a = some op := by
  cases a with
  | otherSize wr => exact absurd rfl (h wr)
  | _ => exact ⟨_, rfl⟩

/-- Kind of a decoded transaction. -/
theorem decodeAccess_kind {op : TxnOp} (h : decodeAccess addr a = some op) :
    (op.isWrite = true ↔ (∃ d, a = .writeWord d) ∨ ∃ d, a = .writeLine d) ∧
    (op.isLineWrite = true ↔ ∃ d, a = .writeLine d) := by
  cases a <;> cases h <;> simp [TxnOp.isWrite, TxnOp.isLineWrite]

end

/-! ## The checks of R89 -/

section
variable {s : State} {i : Initiator} {t : Txn} {resp : PortResp}

theorem refusal_unmapped (h : (s.slice t.slice).loc = .unmapped) : s.refusal i t = some .unmapped :=
  if_pos h

theorem refusal_denied (h : (s.slice t.slice).loc ≠ .unmapped)
    (hd : (s.slice t.slice).domain.getLsbD i.val = false) : s.refusal i t = some .denied := by
  unfold State.refusal
  dsimp only
  rw [if_neg h, if_pos hd]

theorem refusal_protected (h : (s.slice t.slice).loc ≠ .unmapped)
    (hd : (s.slice t.slice).domain.getLsbD i.val = true) (hw : t.op.isWrite = true)
    (hp : (s.slice t.slice).protect = true) : s.refusal i t = some .protected_ := by
  simp [State.refusal, h, hd, hw, hp]

theorem refusal_poisoned (h : (s.slice t.slice).loc ≠ .unmapped)
    (hd : (s.slice t.slice).domain.getLsbD i.val = true)
    (hp : ¬(t.op.isWrite = true ∧ (s.slice t.slice).protect = true))
    (hl : t.op.isLineWrite = false) (hm : (t.slice, t.line) ∈ s.poison) :
    s.refusal i t = some .poisoned := by
  have hp' : (t.op.isWrite && (s.slice t.slice).protect) = false := by simpa using hp
  simp [State.refusal, h, hd, hp', hl, hm]

theorem refusal_none (h : (s.slice t.slice).loc ≠ .unmapped)
    (hc : passesChecks s i t.op.isWrite t.op.isLineWrite t.slice t.line) : s.refusal i t = none := by
  obtain ⟨hd, hp, hm⟩ := hc
  have hp' : (t.op.isWrite && (s.slice t.slice).protect) = false := by
    simpa [Bool.and_eq_false_imp] using hp
  have hm' : (s.poison.contains (t.slice, t.line) && !t.op.isLineWrite) = false := by
    cases hl : t.op.isLineWrite with
    | true => simp
    | false => simpa using hm hl
  unfold State.refusal
  dsimp only
  rw [if_neg h, if_neg (by simp [hd]), if_neg (by rw [hp']; exact Bool.false_ne_true),
    if_neg (by rw [hm']; exact Bool.false_ne_true)]

theorem checkAndSteer_refused {r : PortResp} (h : s.refusal i t = some r) :
    s.checkAndSteer i t = s.answer i r .none := by
  rw [State.checkAndSteer, h]

end

/-! ## Steering -/

section
variable {s : State} {i : Initiator} {t : Txn} {f g : FrameNo}

/-- A transaction given to one frame (R91, R105). -/
theorem cleared_issue_one :
    (cleared s i).issue i t f none =
      { s with
        ports := s.ports.set i { txn := .steered t f none 1, answer := none }
        arbs := s.arbs.set (socketOf f)
          { s.arb (socketOf f) with
            waiting := (s.arb (socketOf f)).waiting ++
              [liveOp (.dataPort i) ⟨f, t.line⟩ t.op.act] } } := by
  simp [cleared, State.issue, State.setPort, State.request, State.setArb, State.port, State.arb, liveOp]

/-- What an operation adds to the arbiters: it joins the tail at its frame's socket (R105). -/
theorem request_eq (s : State) (op : ModOp) :
    s.request op = { s with arbs := Vector.ofFn fun k =>
      { s.arb k with
        waiting := (s.arb k).waiting ++ if socketOf op.fl.frame = k then [op] else [] } } := by
  show ({ s with arbs := (s.request op).arbs } : State) = _
  congr 1
  apply Vector.ext
  intro n hn
  simp only [State.request, State.setArb, Vector.getElem_ofFn]
  by_cases h : (socketOf op.fl.frame).val = n
  · subst h; simp
  · have : socketOf op.fl.frame ≠ ⟨n, hn⟩ := fun e => h (congrArg Fin.val e)
    simp [h, this, State.arb]

/-- A write given to source and target, in that order (R93, R94, R105). -/
theorem cleared_issue_two :
    (cleared s i).issue i t f (some g) =
      { s with
        ports := s.ports.set i { txn := .steered t f (some g) 2, answer := none }
        arbs := Vector.ofFn fun k =>
          { s.arb k with
            waiting := (s.arb k).waiting ++
              (if socketOf f = k then [liveOp (.dataPort i) ⟨f, t.line⟩ t.op.act] else []) ++
              if socketOf g = k then [liveOp (.dataPort i) ⟨g, t.line⟩ t.op.act] else [] } } := by
  unfold State.issue
  dsimp only
  rw [request_eq, request_eq]
  simp [cleared, State.setPort, State.port, State.arb, liveOp]
  rfl

/-- A write held at the tail of its claim's list (R97). -/
theorem cleared_hold {o : Owner} {fl : FrameLine} {held : List Initiator}
    (h : s.place o = .claimed fl held) :
    (cleared s i).hold i t o =
      { s with
        ports := s.ports.set i { txn := .held t o, answer := none }
        places := s.places.set (ownerPlace o) (.claimed fl (held ++ [i])) } := by
  have h' : ((cleared s i).setPort i { (cleared s i).port i with txn := .held t o }).place o =
      .claimed fl held := h
  unfold State.hold
  dsimp only
  rw [h']
  simp [cleared, State.setPort, State.setPlace, State.port]

end

/-- A slice that has a source frame is MAPPED on it or MIGRATING from it. -/
theorem source_cases {l : SliceLoc} {f : FrameNo} (h : l.source = some f) :
    l = .mapped f ∨ ∃ c, l = .migrating f c := by
  cases l <;> cases h
  · exact .inl rfl
  · exact .inr ⟨_, rfl⟩

theorem steer_read {s : State} {i : Initiator} {t : Txn} {f : FrameNo}
    (hs : (s.slice t.slice).loc.source = some f) (ht : t.op.isWrite = false) :
    s.steer i t = s.issue i t f none := by
  rcases source_cases hs with h | ⟨c, h⟩
  · simp [State.steer, h, ht]
  · simp [State.steer, h, ht]

/-- The frame a write is mirrored to, by the slice's record. -/
def mirrorOf (s : State) (t : Txn) : Option FrameNo :=
  (s.slice t.slice).loc.channel.bind fun c => s.mirrorTarget c t.line

theorem steer_write {s : State} {i : Initiator} {t : Txn} {f : FrameNo}
    (hs : (s.slice t.slice).loc.source = some f) (ht : t.op.isWrite = true) :
    s.steer i t = s.steerWrite i t f (mirrorOf s t) := by
  rcases source_cases hs with h | ⟨c, h⟩
  · simp [State.steer, mirrorOf, h, ht, SliceLoc.channel]
  · simp [State.steer, mirrorOf, h, ht, SliceLoc.channel]

theorem checkAndSteer_passes {s : State} {i : Initiator} {t : Txn} {f : FrameNo}
    (hs : (s.slice t.slice).loc.source = some f)
    (hc : passesChecks s i t.op.isWrite t.op.isLineWrite t.slice t.line) :
    s.checkAndSteer i t = s.steer i t := by
  have hu : (s.slice t.slice).loc ≠ .unmapped := fun h => by rw [h] at hs; cases hs
  rw [State.checkAndSteer, refusal_none hu hc]

theorem takeTransaction_passes {s : State} {i : Initiator} {a : PortAccess} {addr : Nat} {op : TxnOp}
    {sl : SliceNo} {l : LineNo} {f : FrameNo} (hop : decodeAccess addr a = some op)
    (hsl : addr / 0x400000 = sl.val) (hl : addr % 0x400000 / 256 = l.val)
    (hs : (s.slice sl).loc.source = some f) (hc : passesChecks s i op.isWrite op.isLineWrite sl l) :
    s.takeTransaction i a addr =
      (cleared s i).steer i { op := op, slice := sl, line := l } :=
  (takeTransaction_decoded hop hsl hl).trans
    (checkAndSteer_passes (s := cleared s i) (t := { op := op, slice := sl, line := l }) hs hc)

end Sys2Proof.Machine.MapProofs

open Sys2Proof Sys2Proof.Machine Sys2Proof.Machine.Laws Sys2Proof.Machine.MapProofs

/-- Settles O25. -/
theorem transactionsAreCheckedInOrder : Obligations.TransactionsAreCheckedInOrder := by
  intro s i a addr hp
  refine ⟨exec_transaction_outstanding, fun hi resp h => ?_⟩
  rw [exec_transaction_taken hp hi]
  congr 1
  rcases h with ⟨⟨wr, rfl⟩, rfl⟩ | ⟨hsize, h⟩
  · exact cleared_answer _ _
  obtain ⟨op, hop⟩ := decodeAccess_isSome (addr := addr) hsize
  obtain ⟨hwrite, hline⟩ := decodeAccess_kind hop
  rcases h with ⟨ha, rfl⟩ | ⟨sl, hsl, h⟩
  · have : addrSlice addr = none := dif_neg (by omega)
    unfold State.takeTransaction
    dsimp only
    rw [hop, this]
    exact cleared_answer _ _
  · have href : (cleared s i).refusal i { op := op, slice := sl, line := addrLine addr } =
        some resp := by
      rcases h with ⟨hu, rfl⟩ | ⟨hu, ⟨hd, rfl⟩ | ⟨hd, ⟨hw, hpr, rfl⟩ | ⟨hw, hnl, ⟨l, hl, hm⟩, rfl⟩⟩⟩
      · exact refusal_unmapped hu
      · exact refusal_denied hu hd
      · exact refusal_protected hu hd (hwrite.2 hw) hpr
      · refine refusal_poisoned hu hd (fun h => hw ⟨hwrite.1 h.1, h.2⟩) ?_ ?_
        · simpa using fun h => (hline.1 h).elim hnl
        · rwa [show addrLine addr = l from Fin.ext hl]
    rw [takeTransaction_decoded (l := addrLine addr) hop hsl rfl, checkAndSteer_refused href,
      cleared_answer]

/-- Settles O26. -/
theorem readsAreSteeredToTheSource : Obligations.ReadsAreSteeredToTheSource := by
  intro s i a addr sl l f op k hp hi hsl hl hsrc hc hop hk
  obtain ⟨hdec, hw, hlw, hact⟩ : decodeAccess addr a = some op ∧ op.isWrite = false ∧
      op.isLineWrite = false ∧ op.act = .read := by
    rcases hop with ⟨rfl, rfl⟩ | ⟨rfl, w, hw, rfl⟩
    · exact ⟨rfl, rfl, rfl, rfl⟩
    · exact ⟨by rw [decodeAccess, show addrWord addr = w from Fin.ext hw], rfl, rfl, rfl⟩
  have hk' : k = socketOf f := Fin.ext hk
  subst hk'
  rw [exec_transaction_taken hp hi, takeTransaction_passes hdec hsl hl hsrc (by rwa [hw, hlw]),
    steer_read (f := f) hsrc hw, cleared_issue_one, hact]

/-- Settles O27. -/
theorem writesGoToTheSourceOrAreMirroredOrHeld :
    Obligations.WritesGoToTheSourceOrAreMirroredOrHeld := by
  intro s i a addr sl l f op act lineWrite hp hi hsl hl hsrc hc hop
  obtain ⟨hdec, hw, hlw, rfl⟩ : decodeAccess addr a = some op ∧ op.isWrite = true ∧
      op.isLineWrite = lineWrite ∧ op.act = act := by
    rcases hop with ⟨d, rfl, rfl, rfl, rfl⟩ | ⟨d, w, rfl, hw, rfl, rfl, rfl⟩
    · exact ⟨rfl, rfl, rfl, rfl⟩
    · exact ⟨by rw [decodeAccess, show addrWord addr = w from Fin.ext hw], rfl, rfl, rfl⟩
  subst hlw
  have htake : exec (.dataPortTransaction i a addr) s = .next ((cleared s i).steerWrite i
      { op := op, slice := sl, line := l } f
      (mirrorOf (cleared s i) { op := op, slice := sl, line := l })) := by
    rw [exec_transaction_taken hp hi, takeTransaction_passes hdec hsl hl hsrc (by rwa [hw]),
      steer_write (f := f) hsrc hw]
  rw [htake]
  refine ⟨fun o held ho ha => ?_, fun hfree => ?_⟩
  · have hclaim : (cleared s i).claimOn ⟨f, l⟩ = some o :=
      claimOn_of_claims (s := cleared s i) ha (by
        show (s.place o).claims _ = true
        rw [ho]; simp [Place.claims])
    rw [State.steerWrite, hclaim]
    exact congrArg _ (cleared_hold ho)
  · have hclaim : (cleared s i).claimOn ⟨f, l⟩ = none := claimOn_none.2 hfree
    rw [State.steerWrite, hclaim]
    refine ⟨fun hloc => ?_, fun c m hloc hm hcur => ?_⟩
    · have : mirrorOf (cleared s i) { op := op, slice := sl, line := l } = none := by
        rcases hloc with h | ⟨c, m, h, hm, hcur⟩
        · show ((s.slice sl).loc.channel.bind fun c => s.mirrorTarget c l) = none
          rw [h]; rfl
        · show ((s.slice sl).loc.channel.bind fun c => s.mirrorTarget c l) = none
          rw [h]
          simp [SliceLoc.channel, State.mirrorTarget, hm, hcur]
      rw [this]
      exact congrArg _ cleared_issue_one
    · have : mirrorOf (cleared s i) { op := op, slice := sl, line := l } = some m.target := by
        show ((s.slice sl).loc.channel.bind fun c => s.mirrorTarget c l) = _
        rw [hloc]
        simp [SliceLoc.channel, State.mirrorTarget, hm, hcur]
      rw [this]
      exact congrArg _ cleared_issue_two

end

section
/-! The power-on reset's values (R122). -/

namespace Sys2Proof.Machine.MapProofs

open Sys2Proof Sys2Proof.Machine Sys2Proof.Machine.Laws

/-! ## Power-on values -/

section
variable (codes : PresenceCodes) (p : List Instr) (w : Bool) (m : Modules)

theorem powerOn_place (o : Owner) : (State.powerOn codes p w m).place o = .empty := by
  simp [State.powerOn, State.place]

theorem powerOn_port (i : Initiator) :
    (State.powerOn codes p w m).port i = { txn := .idle, answer := none } := by
  simp [State.powerOn, State.port]

/-- R123: the walk's first write waits at its socket. -/
theorem powerOn_arb (k : Socket) :
    (State.powerOn codes p w m).arb k =
      { waiting := (firstPresent codes).elim [] fun f =>
          if socketOf f = k then [firstWrite f] else []
        lastChan := 3
        port := [] } := by
  cases h : firstPresent codes <;> simp [State.powerOn, State.arb, h]

theorem firstPresent_some {f : FrameNo} (hf : presentIn codes f = true)
    (hlow : ∀ g : FrameNo, g < f → presentIn codes g = false) : firstPresent codes = some f :=
  find_finRange_some.2 ⟨hf, hlow⟩

theorem firstPresent_none (h : ∀ f : FrameNo, presentIn codes f = false) :
    firstPresent codes = none := find_finRange_none.2 h

end

end Sys2Proof.Machine.MapProofs

open Sys2Proof Sys2Proof.Machine Sys2Proof.Machine.MapProofs

/-- Settles O20. -/
theorem powerOnResetGivesPowerOnValues : Obligations.PowerOnResetGivesPowerOnValues := by
  intro s codes
  refine ⟨State.powerOn codes s.pending s.warmPin s.modules, rfl, rfl, rfl, powerOn_slice _ _ _ _,
    rfl, rfl, fun f => ?_, rfl, rfl, rfl, powerOn_chan _ _ _ _, powerOn_place _ _ _ _,
    fun i => by rw [powerOn_port], ⟨rfl, rfl, rfl, rfl, rfl⟩, rfl, rfl, rfl, rfl, rfl, rfl, rfl, rfl,
    rfl, rfl, rfl, fun k => by rw [powerOn_arb]; exact ⟨rfl, rfl⟩, fun f hf hlow => ?_, fun hnone => ?_⟩
  · rw [powerOn_frame]
    have : presentIn codes f = true ↔ f.val % 16 < fitted codes[f.val / 16] := decide_eq_true_iff
    exact congrArg (FrameRec.mk · none 0 0) (if_congr this rfl rfl)
  · have hfirst := firstPresent_some codes hf hlow
    refine ⟨?_, ?_, ?_, ?_, fun k => ?_⟩
    · simp [State.powerOn, hfirst]
    · simp [State.powerOn, hfirst]
    · simp [State.powerOn, hfirst]
    · simp [State.powerOn, hfirst]
    · rw [powerOn_arb, hfirst]; rfl
  · have hfirst := firstPresent_none codes hnone
    refine ⟨?_, ?_, ?_, ?_, ?_, fun k => ?_⟩
    · simp [State.powerOn, hfirst]
    · simp [State.powerOn, hfirst]
    · simp [State.powerOn, hfirst]
    · simp [State.powerOn, hfirst]
    · simp [State.powerOn, hfirst]
    · rw [powerOn_arb, hfirst]; rfl

end

section
/-! Formats: addresses, words and records give back their fields (R1, R2, R156, R176, R180 to R182). -/

namespace Sys2Proof.Machine.MapProofs

open Sys2Proof Sys2Proof.Machine Sys2Proof.Machine.Laws

/-! ## Addresses -/

theorem addr_fields (i : SliceNo) (l : LineNo) {o : Nat} (ho : o < 256) :
    addrSlice (i.val * 0x400000 + l.val * 256 + o) = some i ∧
    addrLine (i.val * 0x400000 + l.val * 256 + o) = l ∧
    (addrWord (i.val * 0x400000 + l.val * 256 + o)).val = o / 8 := by
  have hl : l.val * 256 + o < 0x400000 := by omega
  have hdiv : (i.val * 0x400000 + l.val * 256 + o) / 0x400000 = i.val := by omega
  refine ⟨?_, Fin.ext ?_, ?_⟩
  · simp [addrSlice, hdiv]
  · simp only [addrLine]; omega
  · simp only [addrWord]; omega

theorem addrSlice_above {a : Nat} (h : 0x0C000000 ≤ a) : addrSlice a = none := dif_neg (by omega)

theorem moduleKey_injective {fl gl : FrameLine} (h : moduleKey fl = moduleKey gl) : fl = gl := by
  obtain ⟨f, l⟩ := fl
  obtain ⟨g, k⟩ := gl
  simp only [moduleKey, bytePos, socketOf] at h
  have hf : f = g := Fin.ext (by omega)
  have hl : l = k := Fin.ext (by omega)
  rw [hf, hl]

/-! ## Words and records -/

theorem toNat_word4 (b0 b1 b2 b3 : Nat) :
    (word4 b0 b1 b2 b3).toNat =
      b0 % 256 + b1 % 256 * 256 + b2 % 256 * 65536 + b3 % 256 * 16777216 := by
  simp only [word4, BitVec.toNat_ofNat]
  omega

theorem toNat_word2 (low high : Nat) :
    (word2 low high).toNat = low % 65536 + high % 65536 * 65536 := by
  simp only [word2, BitVec.toNat_ofNat]
  omega

theorem byteOf_word4 {b0 b1 b2 b3 : Nat} (h0 : b0 < 256) (h1 : b1 < 256) (h2 : b2 < 256)
    (h3 : b3 < 256) :
    byteOf (word4 b0 b1 b2 b3) 0 = b0 ∧ byteOf (word4 b0 b1 b2 b3) 1 = b1 ∧
    byteOf (word4 b0 b1 b2 b3) 2 = b2 ∧ byteOf (word4 b0 b1 b2 b3) 3 = b3 := by
  simp only [byteOf, toNat_word4]
  omega

theorem halves_word2 {low high : Nat} (hl : low < 65536) (hh : high < 65536) :
    lowHalf (word2 low high) = low ∧ (word2 low high).toNat / 65536 = high := by
  simp only [lowHalf, toNat_word2]
  omega

theorem toNat_record8 (b : Fin 8 → Nat) :
    (record8 (b 0) (b 1) (b 2) (b 3) (b 4) (b 5) (b 6) (b 7)).toNat =
      (b 3 % 256 + b 2 % 256 * 256 + b 1 % 256 * 65536 + b 0 % 256 * 16777216) * 4294967296 +
      (b 7 % 256 + b 6 % 256 * 256 + b 5 % 256 * 65536 + b 4 % 256 * 16777216) := by
  have h (x y : Word32) : (x ++ y).toNat = x.toNat * 4294967296 + y.toNat := by
    rw [BitVec.toNat_append, ← Nat.shiftLeft_add_eq_or_of_lt y.isLt, Nat.shiftLeft_eq]
  rw [record8, h, toNat_word4, toNat_word4]

/-- Byte n of a record is the n-th byte it is made of; byte 0 is the most significant (R182). -/
theorem recByte_record8 (b : Fin 8 → Nat) (n : Fin 8) :
    recByte (record8 (b 0) (b 1) (b 2) (b 3) (b 4) (b 5) (b 6) (b 7)) n.val = b n % 256 := by
  simp only [recByte, toNat_record8]
  fin_cases n <;> simp <;> omega

theorem recByte_record8_zero (b0 b1 b2 b3 b4 b5 b6 b7 : Nat) :
    recByte (record8 b0 b1 b2 b3 b4 b5 b6 b7) 0 = b0 % 256 :=
  recByte_record8 ![b0, b1, b2, b3, b4, b5, b6, b7] 0

theorem frameRecord_kind (s : State) (f : FrameNo) : recByte (s.frameRecord f) 0 = 2 := by
  unfold State.frameRecord
  dsimp only
  split <;> exact recByte_record8_zero ..

theorem recByte_eq_extractLsb' (img : Word64) (n : Fin 8) :
    recByte img n.val = (img.extractLsb' (56 - 8 * n.val) 8).toNat := by
  have hpow : 256 ^ (7 - n.val) = 2 ^ (56 - 8 * n.val) := by
    rw [show 56 - 8 * n.val = 8 * (7 - n.val) by omega, pow_mul]; rfl
  rw [recByte, BitVec.extractLsb'_toNat, Nat.shiftRight_eq_div_pow, hpow]

/-! ## The check register -/

theorem crcByte_eq (r : Word32) (b : Byte) :
    crcByte r b = [7, 6, 5, 4, 3, 2, 1, 0].foldl (fun (r : Word32) n =>
      if r.getLsbD 31 = b.getLsbD n then r <<< 1 else (r <<< 1) ^^^ 0x04C11DB7#32) r := by
  have hbit (r : Word32) (c : Bool) :
      crcBit r c = if r.getLsbD 31 = c then r <<< 1 else (r <<< 1) ^^^ 0x04C11DB7#32 := by
    rw [crcBit, BitVec.msb_eq_getLsbD_last]
  simp only [← hbit]
  rfl

end Sys2Proof.Machine.MapProofs

open Sys2Proof Sys2Proof.Machine Sys2Proof.Machine.MapProofs

/-- Settles O58. -/
theorem fieldsReadBackAsPlaced : Obligations.FieldsReadBackAsPlaced := by
  refine ⟨fun i l o ho => addr_fields i l ho, fun a => addrSlice_above, fun fl gl => moduleKey_injective,
    fun b0 b1 b2 b3 => byteOf_word4, fun low high => halves_word2,
    fun b hb n => (recByte_record8 b n).trans (Nat.mod_eq_of_lt (hb n)), recByte_eq_extractLsb',
    rfl, fun _ _ => rfl, fun _ => rfl, rfl, fun _ _ => rfl, rfl, rfl, rfl, rfl, fun s g f i check => ?_,
    crcByte_eq, fun r img => rfl⟩
  exact ⟨recByte_record8_zero .., frameRecord_kind s f, recByte_record8_zero ..,
    recByte_record8_zero ..⟩

end

section
/-! The warm restart, block by block (R134). -/

namespace Sys2Proof.Machine.MapProofs

open Sys2Proof Sys2Proof.Machine Sys2Proof.Machine.Laws

/-- The scrubber after a warm restart: at (0, 0), its timer from zero if it runs (R108, R119). -/
def restartedScrub (s : State) : Scrubber :=
  { s.scrub with
    frame := 0, line := 0, stage := .none, expiryPending := false
    timer := if s.phase ≠ .inventory ∧ s.policy.scrubInterval ≠ 0 then some 0 else none }

/-- The walk after a warm restart: the frame in test starts again (R123, R135). -/
def restartedWalk (s : State) : Walk :=
  { s.walk with
    pass := .write, line := 0, failed := false
    outstanding := if s.walk.frame.isSome then some .write else none }

/-- An arbiter after a warm restart: the walk's first write alone waits (R104, R106, R123). -/
def restartedArb (s : State) (k : Socket) : Arbiter :=
  { (s.arb k).restart with
    waiting := s.walk.frame.elim [] fun f => if socketOf f = k then [firstWrite f] else [] }

theorem restartScrubber_eq {v : State} (hv : v.phase ≠ .importing) :
    v.restartScrubber = { v with scrub := restartedScrub v } := by
  unfold State.restartScrubber restartedScrub
  dsimp only
  have hrun : (v.phase = .staged ∨ v.phase = .active) ↔ v.phase ≠ .inventory := by
    cases hp : v.phase <;> simp_all
  split
  · next h =>
    by_cases hi : v.policy.scrubInterval = 0
    · simp [State.startScrubber, hi]
    · simp [State.startScrubber, hi, hrun.1 h]
  · next h =>
    rw [hrun, not_not] at h
    simp [h]

theorem arbs_eq_ofFn (s : State) : s.arbs = Vector.ofFn s.arb := by
  apply Vector.ext
  intro n hn
  simp [State.arb]

theorem restartWalk_eq {v : State} (hw : v.walk.running = v.walk.frame.isSome)
    (hk : ∀ k, (v.arb k).waiting = []) :
    v.restartWalk = { v with
      walk := restartedWalk v
      arbs := Vector.ofFn fun k => { v.arb k with
        waiting := v.walk.frame.elim [] fun f => if socketOf f = k then [firstWrite f] else [] } } := by
  unfold State.restartWalk restartedWalk
  dsimp only
  cases hf : v.walk.frame with
  | none =>
    have hr : v.walk.running = false := by rw [hw, hf]; rfl
    have harbs : v.arbs = Vector.ofFn fun k => { v.arb k with waiting := [] } := by
      rw [arbs_eq_ofFn]
      exact congrArg _ (funext fun k => by rw [← hk k])
    rw [hr]
    show ({ v with walk := _, arbs := v.arbs } : State) = _
    rw [harbs]
    rfl
  | some f =>
    have hr : v.walk.running = true := by rw [hw, hf]; rfl
    rw [hr]
    dsimp only
    rw [request_eq]
    congr 2
    funext k
    show ({ v.arb k with waiting := (v.arb k).waiting ++ _ } : Arbiter) = _
    rw [hk k]
    rfl

/-- A restarted part before its scrubber and its walk follow; `u` holds the map the aborts leave. -/
def restartedMap (s u : State) : State :=
  { s with
    warmReq := s.warmReq - 1
    slices := u.slices, generation := u.generation, frames := u.frames, spareQ := u.spareQ
    chans := u.chans, broken := []
    ports := s.ports.map Port.restart
    places := Vector.replicate 5 .empty
    reqOrder := []
    arbs := s.arbs.map Arbiter.restart
    phase := if s.phase = Phase.importing then Phase.staged else s.phase
    cmdQ := [], rspQ := [], exportS := none, importS := none
    flags := Flag.warmStart.mask }

theorem restartedMap_arb (s u : State) (k : Socket) :
    (restartedMap s u).arb k = (s.arb k).restart := by
  simp [restartedMap, State.arb]

theorem restartedMap_scrub (s u : State) : restartedScrub (restartedMap s u) = restartedScrub s := by
  have hphase : (restartedMap s u).phase ≠ .inventory ↔ s.phase ≠ .inventory := by
    show (if s.phase = Phase.importing then Phase.staged else s.phase) ≠ .inventory ↔ _
    split <;> simp_all
  unfold restartedScrub
  simp only [hphase]
  rfl

/-- R134: the warm restart in every block. -/
theorem restart_fields {s : State} (h : MapLaws s) :
    ∃ u, ResetBy (List.finRange 4) (cutWork s) u ∧
      s.restart = { restartedMap s u with
        scrub := restartedScrub s, walk := restartedWalk s, arbs := Vector.ofFn (restartedArb s) } := by
  obtain ⟨u, hu⟩ : ∃ u, u = (List.finRange 4).foldl (fun t c => t.abortRecords c .reset) (cutWork s) :=
    ⟨_, rfl⟩
  have r : ResetBy (List.finRange 4) (cutWork s) u :=
    hu ▸ resetChannels_resetBy ((cutWork_sameMap s).laws h)
  have hr : (cutWork s).resetChannels = { u with broken := [] } := by rw [hu]; rfl
  have e : clearSessions { u with broken := [] } = restartedMap s u :=
    congrArg (fun u : State => clearSessions { u with broken := [] }) r.rest
  refine ⟨u, r, ?_⟩
  rw [restart_eq, hr, e]
  have hphase : (restartedMap s u).phase ≠ .importing := by
    show (if s.phase = Phase.importing then Phase.staged else s.phase) ≠ _
    split <;> simp_all
  have hwait (k : Socket) : ((restartedMap s u).arb k).waiting = [] := by rw [restartedMap_arb]; rfl
  rw [restartScrubber_eq hphase, restartedMap_scrub,
    restartWalk_eq (v := { restartedMap s u with scrub := restartedScrub s }) h.walk.2.1 hwait]
  have harbs : (Vector.ofFn fun k => { (restartedMap s u).arb k with
      waiting := s.walk.frame.elim [] fun f => if socketOf f = k then [firstWrite f] else [] }) =
      Vector.ofFn (restartedArb s) :=
    congrArg _ (funext fun k => by rw [restartedMap_arb]; rfl)
  rw [← harbs]
  rfl

/-- Once every channel has aborted no slice is MIGRATING (R63). -/
theorem resetLoc_all (l : SliceLoc) : resetLoc (List.finRange 4) l = match l with
    | .migrating f _ => .mapped f
    | l => l := by
  cases l <;> simp [resetLoc]

/-- R104: no operation granted before a warm restart is live after it. -/
theorem restart_port_not_live (a : Arbiter) : ∀ op ∈ a.restart.port, op.standing ≠ .live := by
  intro op hop
  obtain ⟨x, -, rfl⟩ := List.mem_map.1 hop
  split
  · simp
  · assumption

theorem restartedWalk_eq {s : State} (h : s.walk.running = s.walk.frame.isSome) :
    restartedWalk s =
      { running := s.walk.frame.isSome, frame := s.walk.frame, pass := .write, line := 0
        failed := false, outstanding := if s.walk.frame.isSome then some .write else none } := by
  rw [restartedWalk, h]

theorem Port.restart_idle {p : Port} (h : p.txn = .idle) : p.restart = p := if_pos h

theorem Port.restart_outstanding {p : Port} (h : p.txn ≠ .idle) :
    p.restart = { txn := .idle, answer := some { resp := .aborted, data := .none } } := if_neg h

end Sys2Proof.Machine.MapProofs

open Sys2Proof Sys2Proof.Machine Sys2Proof.Machine.MapProofs

/-- Settles O22: the tables of the aborts by `ResetBy`, the rest by `restart_fields`. -/
theorem warmRestartKeepsTheMapAndEndsTheWork : Obligations.WarmRestartKeepsTheMapAndEndsTheWork := by
  intro s h hp hreq
  obtain ⟨u, r, e⟩ := restart_fields h
  have hx : exec .warmRestart s = .next s.restart := by
    show Host.Outcome.next (s.whenOn _) = _
    rw [State.whenOn, if_pos hp, if_pos hreq]
  have hwalk : s.phase ≠ .inventory → s.walk.frame = none := fun hph => by
    have : s.walk.frame.isSome ≠ true := fun hf => hph ((h.walk.1 hp).1 (h.walk.2.1.trans hf))
    simpa using this
  obtain ⟨t, ht⟩ : ∃ t : State, t = { restartedMap s u with
    scrub := restartedScrub s, walk := restartedWalk s, arbs := Vector.ofFn (restartedArb s) } :=
    ⟨_, rfl⟩
  have harb (k : Socket) : t.arb k = restartedArb s k := by rw [ht]; simp [State.arb]
  have hport (i : Initiator) : t.port i = (s.port i).restart := by
    rw [ht]; simp [State.port, restartedMap]
  have hplace (o : Owner) : t.place o = .empty := by rw [ht]; simp [State.place, restartedMap]
  rw [← ht] at e
  rw [e] at hx
  subst ht
  refine ⟨_, hx, rfl, hp, fun i => (r.slices i).trans ?_, fun c => ⟨fun hc => (r.chans c).trans ?_,
    fun hc => (r.chans c).trans ?_⟩, rfl, fun f hf => r.frames f hf,
    fun c m hm => (r.targets c m hm).trans (if_pos (List.mem_finRange c)), r.spareQ, r.generation,
    rfl, rfl, rfl, rfl, rfl, rfl, rfl, rfl, rfl, rfl, rfl, rfl,
    fun i => ⟨fun hi => (hport i).trans (Port.restart_idle hi),
      fun hi => (hport i).trans (Port.restart_outstanding hi)⟩, hplace, rfl, fun k => ⟨?_, ?_, ?_⟩,
    rfl, ⟨rfl, rfl, rfl, rfl, rfl, rfl⟩, rfl, rfl, rfl, rfl, rfl, fun hph k => ?_, fun hw => ?_,
    fun f hw => ⟨?_, fun k => ?_⟩⟩
  · exact congrArg (SliceRec.mk · (s.slice i).protect (s.slice i).domain) (resetLoc_all _)
  · exact if_neg fun h => h.2 hc
  · exact if_pos ⟨List.mem_finRange c, hc⟩
  · rw [harb]; rfl
  · rw [harb]; exact restart_port_not_live _
  · rw [harb]; rfl
  · rw [harb, restartedArb, hwalk hph]; rfl
  · exact (restartedWalk_eq h.walk.2.1).trans (by rw [hw]; rfl)
  · exact (restartedWalk_eq h.walk.2.1).trans (by rw [hw]; rfl)
  · rw [harb, restartedArb, hw]; rfl

end

section
/-! The commands of the frame unit (R41 to R44): what each answers, its checks in order. -/

namespace Sys2Proof.Machine.FrameProofs

open Sys2Proof Sys2Proof.Machine Sys2Proof.Machine.Laws Sys2Proof.Machine.MapProofs

theorem exec_addSpare (s : State) :
    exec .addSpare s = .next (s.takeCommand (· == 0x21) addSpareCommand) := rfl
theorem exec_withdrawSpare (s : State) :
    exec .withdrawSpare s = .next (s.takeCommand (· == 0x22) withdrawSpareCommand) := rfl
theorem exec_retire (s : State) :
    exec .retire s = .next (s.takeCommand (· == 0x23) retireCommand) := rfl
theorem exec_clearCounts (s : State) :
    exec .clearCounts s = .next (s.takeCommand (· == 0x24) clearCountsCommand) := rfl

section
variable {w : CmdWord} {s : State} {f : FrameNo}

/-! ## ADD_SPARE -/

/-- ADD_SPARE of a frame number in range: the phase is checked, then the frame's state. -/
theorem addSpareCommand_guarded (hf : byteOf w.cmd1 1 = f.val) :
    addSpareCommand w s = s.guarded [.active] false
      (if (s.frame f).state = .free then
        (s.joinSpare f).bump.done
          (word4 f.val (orNone (posIn (s.spareQ ++ [f]) f)) (s.spareQ ++ [f]).length 0) 0
      else s.refuse .wrongState) := by
  rw [addSpareCommand, argFrame_of_eq hf]
  rfl

theorem addSpareCommand_notFree (hf : byteOf w.cmd1 1 = f.val) (hp : s.phase = .active)
    (hs : (s.frame f).state ≠ .free) : addSpareCommand w s = s.refuse .wrongState := by
  rw [addSpareCommand_guarded hf, guarded_in (by simp [hp]) (.inl rfl), if_neg hs]

/-- A frame that joins a queue stands behind all that were in it. -/
theorem posIn_joined {q : List FrameNo} (h : f ∉ q) : posIn (q ++ [f]) f = some q.length := by
  simp [posIn, List.idxOf_append_of_notMem h]

theorem addSpareCommand_free (hf : byteOf w.cmd1 1 = f.val) (hp : s.phase = .active)
    (hs : (s.frame f).state = .free) (hq : f ∉ s.spareQ) :
    addSpareCommand w s =
      (s.joinSpare f).bump.done (word4 f.val s.spareQ.length (s.spareQ.length + 1) 0) 0 := by
  rw [addSpareCommand_guarded hf, guarded_in (by simp [hp]) (.inl rfl), if_pos hs, posIn_joined hq,
    List.length_append]
  rfl

/-! ## WITHDRAW_SPARE -/

/-- WITHDRAW_SPARE of a frame number in range: the phase is checked, then the frame's state. -/
theorem withdrawSpareCommand_guarded (hf : byteOf w.cmd1 1 = f.val) :
    withdrawSpareCommand w s = s.guarded [.active] false
      (if (s.frame f).state = .spare then
        ((s.removeSpare f).setFrameState f .free).bump.done
          (word4 f.val 0 (s.removeSpare f).spareQ.length 0) 0
      else s.refuse .wrongState) := by
  rw [withdrawSpareCommand, argFrame_of_eq hf]
  rfl

theorem withdrawSpareCommand_notSpare (hf : byteOf w.cmd1 1 = f.val) (hp : s.phase = .active)
    (hs : (s.frame f).state ≠ .spare) : withdrawSpareCommand w s = s.refuse .wrongState := by
  rw [withdrawSpareCommand_guarded hf, guarded_in (by simp [hp]) (.inl rfl), if_neg hs]

theorem withdrawSpareCommand_spare (hf : byteOf w.cmd1 1 = f.val) (hp : s.phase = .active)
    (hs : (s.frame f).state = .spare) :
    withdrawSpareCommand w s =
      State.done { s with
        frames := s.frames.set f { s.frame f with state := .free }
        spareQ := s.spareQ.erase f
        flags := s.flags ||| s.removalFlags (s.spareQ.erase f)
        generation := s.generation + 1 } (word4 f.val 0 (s.spareQ.erase f).length 0) 0 := by
  rw [withdrawSpareCommand_guarded hf, guarded_in (by simp [hp]) (.inl rfl), if_pos hs,
    removeSpare_eq]
  rfl

/-! ## CLEAR_COUNTS -/

/-- CLEAR_COUNTS of a frame number in range: the phase is checked, then the frame's presence. -/
theorem clearCountsCommand_guarded (hf : byteOf w.cmd1 1 = f.val) :
    clearCountsCommand w s = s.guarded [.staged, .importing, .active] false
      (if (s.frame f).state = .absent then s.refuse .wrongState
      else (s.setFrame f { s.frame f with corrected := 0, uncorrectable := 0 }).done
        (word4 f.val 0 0 0) 0) := by
  rw [clearCountsCommand, argFrame_of_eq hf]

theorem mem_notInventory : s.phase ∈ [Phase.staged, .importing, .active] ↔ s.phase ≠ .inventory := by
  cases s.phase <;> simp

theorem clearCountsCommand_absent (hf : byteOf w.cmd1 1 = f.val) (hp : s.phase ≠ .inventory)
    (hs : (s.frame f).state = .absent) : clearCountsCommand w s = s.refuse .wrongState := by
  rw [clearCountsCommand_guarded hf, guarded_in (mem_notInventory.2 hp) (.inl rfl), if_pos hs]

theorem clearCountsCommand_present (hf : byteOf w.cmd1 1 = f.val) (hp : s.phase ≠ .inventory)
    (hs : (s.frame f).state ≠ .absent) :
    clearCountsCommand w s =
      (s.setFrame f { s.frame f with corrected := 0, uncorrectable := 0 }).done
        (word4 f.val 0 0 0) 0 := by
  rw [clearCountsCommand_guarded hf, guarded_in (mem_notInventory.2 hp) (.inl rfl), if_neg hs]

/-! ## RETIRE -/

/-- What RETIRE of a frame does once the phase is checked, by the frame's state (R43). -/
theorem retireCommand_guarded (hf : byteOf w.cmd1 1 = f.val) :
    ∃ run, retireCommand w s = s.guarded [.staged, .active] false run ∧
      ((s.frame f).state = .absent ∨ (s.frame f).state = .untested ∨ (s.frame f).state = .retired →
        run = s.refuse .wrongState) ∧
      ((s.frame f).state = .target → run = s.retireTarget f) ∧
      ((s.frame f).state = .free ∨ (s.frame f).state = .spare →
        run = (s.markSuspect f .software).bump.retireDone f none) ∧
      ∀ i, (s.frame f).state = .bound i →
        ((s.frame f).suspect = none → run = (s.markSuspect f .software).bump.retireDone f none) ∧
        ∀ cause, (s.frame f).suspect = some cause → run = s.retireDone f none := by
  rw [retireCommand, argFrame_of_eq hf]
  refine ⟨_, rfl, fun h => ?_, fun h => ?_, fun h => ?_, fun i h => ⟨fun hs => ?_, fun c hs => ?_⟩⟩
  · rcases h with h | h | h <;> rw [h]
  · rw [h]
  · rcases h with h | h <;> rw [h]
  · rw [h, hs]; rfl
  · rw [h, hs]; rfl

theorem retire_guarded_in {run : CmdOut} (hp : inService s) :
    s.guarded [.staged, .active] false run = run :=
  guarded_in (mem_inService.2 hp) (.inl rfl)

end

section
variable {s : State} {f : FrameNo}

/-- R40: a RETIRED frame that the retire queue does not hold has no position in it. -/
theorem retirePos_retired (hr : f ∉ s.retireQ) (hs : (s.frame f).state = .retired) :
    s.retirePos f = 0xFF :=
  retirePos_eq (.inr (.inr ⟨hr, fun h => by simp [State.suspectBound, hs, FrameState.isBound] at h,
    rfl⟩))

/-- R28, R29, R43: RETIRE's marking of a FREE or SPARE frame, which the retire queue does not hold. -/
theorem retireDone_unbound {q : List FrameNo} (hr : f ∉ s.retireQ)
    (hq : (s.frame f).state = .free ∧ q = s.spareQ ∨
      (s.frame f).state = .spare ∧ q = s.spareQ.erase f) :
    (s.markSuspect f .software).bump.retireDone f none =
      State.done { s with
        frames := s.frames.set f { s.frame f with state := .retired, suspect := some .software }
        spareQ := q
        flags := s.flags ||| Flag.frameSuspect.mask ||| Flag.frameRetired.mask |||
          (if (s.frame f).state = .spare then s.removalFlags q else 0)
        generation := s.generation + 1 } (word4 f.val 6 0xFF 4) (word4 0xFF 0 0 0) := by
  obtain ⟨t, ht⟩ : ∃ t : State, t = { s with
      frames := s.frames.set f { s.frame f with state := .retired, suspect := some .software }
      spareQ := q
      flags := s.flags ||| Flag.frameSuspect.mask ||| Flag.frameRetired.mask |||
        (if (s.frame f).state = .spare then s.removalFlags q else 0)
      generation := s.generation + 1 } := ⟨_, rfl⟩
  have hm : (s.markSuspect f .software).bump = t := by
    rcases hq with ⟨hf, rfl⟩ | ⟨hf, rfl⟩
    · rw [markSuspect_free s f _ hf, ht]
      simp [State.bump, hf]
    · rw [markSuspect_spare s f _ hf, ht, if_pos hf, BitVec.or_assoc _ (s.removalFlags _),
        BitVec.or_comm (s.removalFlags _), ← BitVec.or_assoc]
      rfl
  have hrec : t.frame f = { s.frame f with state := .retired, suspect := some .software } := by
    rw [frame_set (s := s) (by rw [ht]) f, if_pos rfl]
  have hpos : t.retirePos f = 0xFF := retirePos_retired (by rw [ht]; exact hr) (by rw [hrec])
  rw [hm, ← ht, State.retireDone, hpos, hrec]
  rfl

/-- R30, R43: RETIRE's marking of a BOUND frame, which joins the retire queue if there is room. -/
theorem retireDone_bound {i : SliceNo} {q : List FrameNo} {pos : Nat}
    (hf : (s.frame f).state = .bound i) (hr : f ∉ s.retireQ)
    (hq : s.retireQ.length < 8 ∧ q = s.retireQ ++ [f] ∧ pos = s.retireQ.length ∨
      8 ≤ s.retireQ.length ∧ q = s.retireQ ∧ pos = 0xFE) :
    (s.markSuspect f .software).bump.retireDone f none =
      State.done { s with
        frames := s.frames.set f { s.frame f with suspect := some .software }
        retireQ := q
        flags := s.flags ||| Flag.frameSuspect.mask
        generation := s.generation + 1 } (word4 f.val 4 pos 4) (word4 0xFF 0 0 0) := by
  obtain ⟨t, ht⟩ : ∃ t : State, t = { s with
      frames := s.frames.set f { s.frame f with suspect := some .software }
      retireQ := q
      flags := s.flags ||| Flag.frameSuspect.mask
      generation := s.generation + 1 } := ⟨_, rfl⟩
  have hm : (s.markSuspect f .software).bump = t := by
    rw [markSuspect_bound s f _ i hf, ht]
    rcases hq with ⟨hl, rfl, -⟩ | ⟨hl, rfl, -⟩
    · rw [if_pos hl]; rfl
    · rw [if_neg (Nat.not_lt.2 hl)]; rfl
  have hrec : t.frame f = { s.frame f with suspect := some .software } := by
    rw [frame_set (s := s) (by rw [ht]) f, if_pos rfl]
  have hb : t.suspectBound f := by simp [State.suspectBound, hrec, hf, FrameState.isBound]
  have htq : t.retireQ = q := by rw [ht]
  have hpos : t.retirePos f = pos := retirePos_eq <| by
    rw [htq]
    rcases hq with ⟨-, rfl, rfl⟩ | ⟨-, rfl, rfl⟩
    · exact .inl ⟨by simp, by simp [List.idxOf_append_of_notMem hr]⟩
    · exact .inr (.inl ⟨hr, hb, rfl⟩)
  rw [hm, ← ht, State.retireDone, hpos, hrec]
  dsimp only
  rw [hf]
  rfl

/-- R43: RETIRE of a suspect BOUND frame reports where it stands. -/
theorem retireDone_suspect {i : SliceNo} {cause : Cause} {pos : Nat}
    (hf : (s.frame f).state = .bound i) (hs : (s.frame f).suspect = some cause)
    (hpos : f ∈ s.retireQ ∧ pos = s.retireQ.idxOf f ∨ f ∉ s.retireQ ∧ pos = 0xFE) :
    s.retireDone f none =
      s.done (word4 f.val 4 pos (causeCode (some cause))) (word4 0xFF 0 0 0) := by
  have hb : s.suspectBound f := by simp [State.suspectBound, hf, hs, FrameState.isBound]
  have : s.retirePos f = pos := retirePos_eq <|
    hpos.imp_right fun ⟨hm, hp⟩ => .inl ⟨hm, hb, hp⟩
  rw [State.retireDone, this, hf, hs]
  rfl

end

end Sys2Proof.Machine.FrameProofs

open Sys2Proof Sys2Proof.Machine Sys2Proof.Machine.Laws Sys2Proof.Machine.MapProofs
  Sys2Proof.Machine.FrameProofs

/-- Settles O5. -/
theorem sparesJoinAndLeaveByCommand : Obligations.SparesJoinAndLeaveByCommand := by
  refine ⟨fun s w rest ht => ⟨fun h => ?_, fun f hf => ⟨fun hp => ?_, fun hp hs => ?_, fun hp hs hq => ?_⟩⟩,
    fun s w rest ht => ⟨fun h => ?_, fun f hf => ⟨fun hp => ?_, fun hp hs => ?_, fun hp hs => ?_⟩⟩⟩
  · exact refused_of_takes (exec_addSpare s) ht (by rw [addSpareCommand, argFrame_out h])
  · exact refused_of_takes (exec_addSpare s) ht
      ((addSpareCommand_guarded hf).trans (guarded_out (by simp [hp])))
  · exact refused_of_takes (exec_addSpare s) ht (addSpareCommand_notFree hf hp hs)
  · exact exec_of_takes (exec_addSpare s) ht (addSpareCommand_free hf hp hs hq)
  · exact refused_of_takes (exec_withdrawSpare s) ht (by rw [withdrawSpareCommand, argFrame_out h])
  · exact refused_of_takes (exec_withdrawSpare s) ht
      ((withdrawSpareCommand_guarded hf).trans (guarded_out (by simp [hp])))
  · exact refused_of_takes (exec_withdrawSpare s) ht (withdrawSpareCommand_notSpare hf hp hs)
  · exact exec_of_takes (exec_withdrawSpare s) ht (withdrawSpareCommand_spare hf hp hs)

/-- Settles O7. -/
theorem clearCountsZeroesBothCounts : Obligations.ClearCountsZeroesBothCounts := by
  refine fun s w rest ht => ⟨fun h => ?_, fun f hf => ⟨fun hp => ?_, fun hp hs => ?_, fun hp hs => ?_⟩⟩
  · exact refused_of_takes (exec_clearCounts s) ht (by rw [clearCountsCommand, argFrame_out h])
  · exact refused_of_takes (exec_clearCounts s) ht
      ((clearCountsCommand_guarded hf).trans (guarded_out fun hm => mem_notInventory.1 hm hp))
  · exact refused_of_takes (exec_clearCounts s) ht (clearCountsCommand_absent hf hp hs)
  · exact exec_of_takes (exec_clearCounts s) ht (clearCountsCommand_present hf hp hs)

/-- Settles O6. -/
theorem retireActsByTheFrameState : Obligations.RetireActsByTheFrameState := by
  refine fun s w rest ht => ⟨fun h => ?_, fun f hf => ?_⟩
  · exact refused_of_takes (exec_retire s) ht (by rw [retireCommand, argFrame_out h])
  obtain ⟨run, hrun, hrefused, -, hunbound, hbound⟩ :=
    retireCommand_guarded (s := { s with cmdQ := rest }) hf
  refine ⟨fun hp => ?_, fun hp => ⟨fun h => ?_, fun q hr hq => ?_, fun i q pos hs hn hr hq => ?_,
    fun i cause pos hs hn hpos => ?_⟩⟩
  · exact refused_of_takes (exec_retire s) ht (hrun.trans (guarded_out (mt mem_inService.1 hp)))
  all_goals have hin := hrun.trans (retire_guarded_in hp)
  · exact refused_of_takes (exec_retire s) ht (hin.trans (hrefused h))
  · exact exec_of_takes (exec_retire s) ht (hin.trans ((hunbound (hq.imp And.left And.left)).trans
      (retireDone_unbound (s := { s with cmdQ := rest }) hr hq)))
  · exact exec_of_takes (exec_retire s) ht (hin.trans (((hbound i hs).1 hn).trans
      (retireDone_bound (s := { s with cmdQ := rest }) hs hr hq)))
  · exact exec_of_takes (exec_retire s) ht (hin.trans (((hbound i hs).2 cause hn).trans
      (retireDone_suspect (s := { s with cmdQ := rest }) hs hn hpos)))

end

section
/-! What an outcome does to its frame (R24 to R30, R32), and the completion of abandoned operations (R46,
R65, R96). -/

namespace Sys2Proof.Machine.FrameProofs

open Sys2Proof Sys2Proof.Machine Sys2Proof.Machine.Laws Sys2Proof.Machine.MapProofs

section
variable {s : State} {f : FrameNo} {o : ReadOutcome} {r : FrameRec}

/-! ## Counting and marking -/

theorem countOnly_frameRec (s : State) (f g : FrameNo) (o : ReadOutcome) :
    (s.countOnly f o).frame g = if f = g then (s.frame f).counted o else s.frame g :=
  frame_set (by rw [countOnly_eq]) g

theorem countOnly_policy (s : State) (f : FrameNo) (o : ReadOutcome) :
    (s.countOnly f o).policy = s.policy := by rw [countOnly_frame]

/-- R25, R26: a frame in use that is not suspect is marked by a corrected outcome at the threshold, and by
an uncorrectable one. -/
theorem markingCause_some (hr : r = (s.frame f).counted o) {cause : Cause}
    (ho : o = .corrected ∧ s.policy.threshold ≤ r.corrected ∧ cause = .threshold ∨
      o = .uncorrectable ∧ cause = .uncorrectable)
    (hs : r.suspect = none) (hu : r.state.inUse = true) :
    (s.countOnly f o).markingCause f o = some cause := by
  unfold State.markingCause
  rw [countOnly_frameRec, if_pos rfl, ← hr, hs, hu, countOnly_policy]
  rcases ho with ⟨rfl, ht, rfl⟩ | ⟨rfl, rfl⟩
  · exact if_pos ht
  · rfl

/-- R25, R26: every other outcome marks nothing. -/
theorem markingCause_none (hr : r = (s.frame f).counted o)
    (h : o = .clean ∨ o = .corrected ∧ r.corrected < s.policy.threshold ∨ r.suspect ≠ none ∨
      r.state.inUse = false) :
    (s.countOnly f o).markingCause f o = none := by
  unfold State.markingCause
  rw [countOnly_frameRec, if_pos rfl, ← hr, countOnly_policy]
  rcases h with rfl | ⟨rfl, ht⟩ | hs | hu
  · exact ite_self _
  · rw [if_neg (Nat.not_le.2 ht)]
    exact ite_self _
  · rw [if_neg (by simp [hs])]
  · rw [if_neg (by simp [hu])]

theorem takeOutcome_unmarked (hr : r = (s.frame f).counted o)
    (hm : (s.countOnly f o).markingCause f o = none) :
    s.takeOutcome f o = { s with frames := s.frames.set f r } := by
  rw [State.takeOutcome, State.countAndMark, State.marks, hm, hr]
  exact countOnly_eq s f o

/-- R24 to R27: the marking is made on the counted record, and the generation advances once. -/
theorem takeOutcome_marked (hr : r = (s.frame f).counted o) {cause : Cause}
    (hm : (s.countOnly f o).markingCause f o = some cause) :
    s.takeOutcome f o = (({ s with frames := s.frames.set f r } : State).markSuspect f cause).bump := by
  rw [State.takeOutcome, State.countAndMark, State.marks, hm, hr, ← countOnly_eq]
  rfl

theorem frame_of_set_self (s : State) (f : FrameNo) (r : FrameRec) :
    ({ s with frames := s.frames.set f r } : State).frame f = r :=
  (frame_set (s := s) rfl f).trans (if_pos rfl)

end

/-! ## Abandoned operations -/

theorem exec_abandonedOperationComplete {s : State} {k : Socket} {op : ModOp} {rest : List ModOp}
    (hp : s.powered = true) (hq : (s.arb k).port = op :: rest) (o : ReadOutcome) :
    exec (.abandonedOperationComplete k o) s =
      .next (if op.standing = .live then s else s.abandonedComplete k op o) := by
  show Host.Outcome.next (s.whenOn _) = _
  rw [State.whenOn, if_pos hp, nextOp_of_port hq]

theorem abandonedComplete_eq {s : State} {k : Socket} {op : ModOp} {rest : List ModOp}
    (hq : (s.arb k).port = op :: rest) (o : ReadOutcome) :
    s.abandonedComplete k op o =
      (if op.act = .read ∧ op.standing = .aborted then (s.landed k op rest).takeOutcome op.fl.frame o
        else s.landed k op rest).testRequests op.fl := by
  rw [State.abandonedComplete, complete_eq_landed hq]

end Sys2Proof.Machine.FrameProofs

open Sys2Proof Sys2Proof.Machine Sys2Proof.Machine.Laws Sys2Proof.Machine.MapProofs
  Sys2Proof.Machine.FrameProofs

/-- Settles O28. -/
theorem outcomesAreCountedAndMark : Obligations.OutcomesAreCountedAndMark := by
  refine ⟨fun s f o r hr cause ho hs => ?_, fun s f o r hr h => takeOutcome_unmarked hr ?_⟩
  · have hrec := frame_of_set_self s f r
    have hout (hu : r.state.inUse = true) := takeOutcome_marked hr (markingCause_some hr ho hs hu)
    refine ⟨fun hf => ?_, fun hf => ?_, fun i hf => ?_⟩
    · rw [hout (by rw [hf]; rfl), markSuspect_free _ f cause (by rw [hrec, hf]), hrec]
      simp [State.bump]
    · rw [hout (by rw [hf]; rfl), markSuspect_spare _ f cause (by rw [hrec, hf]), hrec]
      simp [State.bump, State.removalFlags]
    · rw [hout (by rw [hf]; rfl), markSuspect_bound _ f cause i (by rw [hrec, hf]), hrec]
      simp [State.bump]
  · refine markingCause_none hr (h.imp_right (Or.imp_right (Or.imp_right fun hf => ?_)))
    rcases hf with hf | hf | hf | hf <;> rw [hf] <;> rfl

/-- Settles O31. -/
theorem abandonedOperationsComplete : Obligations.AbandonedOperationsComplete := by
  intro s k op rest o hp hq
  rw [exec_abandonedOperationComplete hp hq, abandonedComplete_eq hq]
  refine ⟨fun hl => by rw [if_pos hl], fun ha hr => ?_, fun h => ?_⟩
  · rw [if_neg (by rw [ha]; nofun), if_pos ⟨hr, ha⟩]
  · rcases h with hs | ⟨hs, hr⟩
    · rw [if_neg (by rw [hs]; nofun), if_neg (by rw [hs]; exact fun h => nomatch h.2)]
    · rw [if_neg (by rw [hs]; nofun), if_neg fun h => hr h.1]

end

section
/-! The dispatcher's start (R39, R72). -/

namespace Sys2Proof.Machine.FrameProofs

open Sys2Proof Sys2Proof.Machine Sys2Proof.Machine.Laws Sys2Proof.Machine.MapProofs

section
variable {s : State}

theorem exec_dispatchStart_none (hp : s.powered = true) (h : s.dispatchChoice = none) :
    exec .dispatchStart s = .next s := by
  show Host.Outcome.next (s.whenOn _) = _
  rw [State.whenOn, if_pos hp, h]

theorem exec_dispatchStart_some (hp : s.powered = true) {i : SliceNo} {f t : FrameNo} {c : ChanNo}
    (h : s.dispatchChoice = some (i, f, t, c)) :
    exec .dispatchStart s = .next (s.setUpMigration i f t c none .auto) := by
  show Host.Outcome.next (s.whenOn _) = _
  rw [State.whenOn, if_pos hp, h]

/-- R39: an entry whose slice is not MAPPED is not eligible. -/
theorem eligibleEntry_none {f : FrameNo}
    (h : ∀ i, (s.frame f).state = .bound i → ∀ g, (s.slice i).loc ≠ .mapped g) :
    s.eligibleEntry f = none := by
  unfold State.eligibleEntry
  split
  · next i hi =>
    split
    · next g hg => exact absurd hg (h i hi g)
    · rfl
  · rfl

theorem eligibleEntry_some {f g : FrameNo} {i : SliceNo} (hf : (s.frame f).state = .bound i)
    (hi : (s.slice i).loc = .mapped g) : s.eligibleEntry f = some (i, f) := by
  unfold State.eligibleEntry
  rw [hf]
  dsimp only
  rw [hi]

theorem idleChan_none : s.idleChan = none ↔ ∀ c, (s.chan c).state ≠ .idle := by
  simp [State.idleChan]

theorem idleChan_some {c : ChanNo} :
    s.idleChan = some c ↔ (s.chan c).state = .idle ∧ ∀ d < c, (s.chan d).state ≠ .idle := by
  simp only [State.idleChan, find_finRange_some, beq_iff_eq, beq_eq_false_iff_ne]

/-- R72: with one of its four conditions missing a dispatch start has nothing to take. -/
theorem dispatchChoice_none (h : s.policy.autoRetire = false ∨ (∀ c, (s.chan c).state ≠ .idle) ∨
    s.spareQ = [] ∨ ∀ f ∈ s.retireQ, s.eligibleEntry f = none) : s.dispatchChoice = none := by
  unfold State.dispatchChoice
  rcases h with h | h | h | h
  · rw [h]; rfl
  · rw [idleChan_none.2 h]; simp
  · rw [h]; simp
  · rw [List.findSome?_eq_none_iff.2 h]; simp

/-- R39, R72: what a dispatch start takes. -/
theorem dispatchChoice_some {before after : List FrameNo} {f target : FrameNo} {q : List FrameNo}
    {i : SliceNo} {c : ChanNo} (hauto : s.policy.autoRetire = true)
    (hq : s.retireQ = before ++ f :: after) (hbefore : ∀ b ∈ before, s.eligibleEntry b = none)
    (hf : s.eligibleEntry f = some (i, f)) (hspare : s.spareQ = target :: q)
    (hc : s.idleChan = some c) : s.dispatchChoice = some (i, f, target, c) := by
  have hentry : s.retireQ.findSome? s.eligibleEntry = some (i, f) := by
    rw [hq, List.findSome?_append, List.findSome?_eq_none_iff.2 hbefore, List.findSome?_cons, hf]
    rfl
  rw [State.dispatchChoice, if_pos hauto, hentry, hspare, hc]
  rfl

/-- R72: a migration that starts NOW on the head of the spare queue. -/
theorem setUpMigration_spareHead {i : SliceNo} {f target : FrameNo} {q : List FrameNo} {c : ChanNo}
    (hspare : s.spareQ = target :: q) (ht : (s.frame target).state = .spare) (b : InitiatedBy) :
    s.setUpMigration i f target c none b =
      { s with
        slices := s.slices.set i { s.slice i with loc := .migrating f c }
        frames := s.frames.set target { s.frame target with state := .target }
        spareQ := q
        flags := s.flags ||| s.removalFlags q
        chans := s.chans.set c
          { s.chan c with state := .running (newMigration i target .spare none b) f }
        generation := s.generation + 1 } := by
  have horigin : s.originOf target = .spare := if_pos ht
  have herase : s.spareQ.erase target = q := by rw [hspare, List.erase_cons_head]
  unfold State.setUpMigration State.takeTarget
  rw [if_pos ht, removeSpare_eq, horigin, herase]
  rfl

end

end Sys2Proof.Machine.FrameProofs

open Sys2Proof Sys2Proof.Machine Sys2Proof.Machine.FrameProofs

/-- Settles O39. -/
theorem theDispatcherStartsTheOldestEligibleEntry :
    Obligations.TheDispatcherStartsTheOldestEligibleEntry := by
  intro s hp
  refine ⟨fun h => ?_, fun before after f target q i g c hauto hq hbefore hf hi hspare ht _ hc hlow => ?_⟩
  · exact exec_dispatchStart_none hp (dispatchChoice_none
      (h.imp_right (Or.imp_right (Or.imp_right fun h f hf => eligibleEntry_none (h f hf)))))
  · rw [exec_dispatchStart_some hp (dispatchChoice_some hauto hq
      (fun b hb => eligibleEntry_none (hbefore b hb)) (eligibleEntry_some hf hi) hspare
      (idleChan_some.2 ⟨hc, hlow⟩)), setUpMigration_spareHead hspare ht]
    rfl

end

section
/-! The laws at the power-on reset (R22, R122, R123). -/

namespace Sys2Proof.Machine.FrameProofs

open Sys2Proof Sys2Proof.Machine Sys2Proof.Machine.Laws Sys2Proof.Machine.MapProofs

section
variable (codes : PresenceCodes) (p : List Instr) (w : Bool) (m : Modules)

theorem powerOn_claimLaws : ClaimLaws (State.powerOn codes p w m) where
  apart o _ fl h := by rw [powerOn_place] at h; cases h
  held i o := by rw [powerOn_port, powerOn_place]; exact iff_of_false nofun nofun
  once o := by rw [powerOn_place]; exact List.nodup_nil
  waits o fl h := by rw [powerOn_place] at h; cases h
  scrub _ := powerOn_place codes p w m _

/-- R123: the one operation a power-on reset requests is the walk's. -/
theorem powerOn_liveOps (i : Initiator) : (State.powerOn codes p w m).liveOps i = [] := by
  refine List.flatMap_eq_nil_iff.2 fun k _ => List.filter_eq_nil_iff.2 fun op hop => ?_
  rw [powerOn_arb] at hop
  cases hf : firstPresent codes with
  | none => simp [hf] at hop
  | some f =>
    obtain ⟨-, rfl⟩ : socketOf f = k ∧ op = firstWrite f := by simpa [hf] using hop
    simp [firstWrite]

theorem powerOn_portLaws : PortLaws (State.powerOn codes p w m) := fun i => by
  rw [powerOn_port, powerOn_liveOps]
  rfl

theorem powerOn_rangeLaws : RangeLaws (State.powerOn codes p w m) where
  counts f := by rw [powerOn_frame]; exact ⟨Nat.zero_le _, Nat.zero_le _⟩
  commands := Nat.zero_le _
  responses := Nat.zero_le _
  threshold := show 1 ≤ Policy.powerOn.threshold ∧ Policy.powerOn.threshold ≤ 255 by decide
  spareLow := show Policy.powerOn.spareLow ≤ 63 by decide
  interval := show Policy.powerOn.scrubInterval ≤ 65535 by decide
  reserve := show Policy.powerOn.defaultReserve ≤ 16 by decide
  levelFlag := by
    show (if (firstPresent codes).isNone then Flag.inventoryDone.mask else 0).getLsbD 0 = false
    split <;> rfl

end

end Sys2Proof.Machine.FrameProofs

open Sys2Proof Sys2Proof.Machine Sys2Proof.Machine.MapProofs Sys2Proof.Machine.FrameProofs

/-- Settles O47. -/
theorem lawsHoldAtReset : Obligations.LawsHoldAtReset := by
  refine ⟨fun s hp hw hm => ?_, powerOn_laws .., powerOn_claimLaws .., powerOn_portLaws _ _ _ _,
    powerOn_rangeLaws .., List.Pairwise.nil⟩
  show Host.Outcome.next (State.powerOn _ s.pending s.warmPin s.modules) = _
  rw [hp, hw, hm]
  rfl

end

section
/-! What gives up a channel's place: the writes held on it go on, and the channel has no work left (R65,
R98). -/

namespace Sys2Proof.Machine.FrameProofs

open Sys2Proof Sys2Proof.Machine Sys2Proof.Machine.Laws Sys2Proof.Machine.MapProofs

/-! ## A transaction checked and steered -/

/-- R90: a transaction checked and steered is answered, given to its frames, or held on the claim that
stands on its source line. -/
theorem checkAndSteer_cases (s : State) (i : Initiator) (t : Txn) :
    (∃ r, s.checkAndSteer i t = s.answer i r .none) ∨
    (∃ f g, s.checkAndSteer i t = s.issue i t f g) ∨
    ∃ o fl, s.claimOn fl = some o ∧ s.checkAndSteer i t = s.hold i t o := by
  have hwrite (f : FrameNo) (g : Option FrameNo) : s.steerWrite i t f g = s.issue i t f g ∨
      ∃ o fl, s.claimOn fl = some o ∧ s.steerWrite i t f g = s.hold i t o := by
    unfold State.steerWrite
    split
    · next o ho => exact .inr ⟨o, _, ho, rfl⟩
    · exact .inl rfl
  cases hr : s.refusal i t with
  | some r => exact .inl ⟨r, checkAndSteer_refused hr⟩
  | none =>
    have hsteer : s.checkAndSteer i t = s.steer i t := by rw [State.checkAndSteer, hr]
    rw [hsteer]
    obtain ⟨f, hf⟩ : ∃ f, (s.slice t.slice).loc.source = some f := by
      cases hl : (s.slice t.slice).loc with
      | unmapped => rw [refusal_unmapped hl] at hr; cases hr
      | mapped f => exact ⟨f, rfl⟩
      | migrating f c => exact ⟨f, rfl⟩
    cases hw : t.op.isWrite with
    | false => exact .inr (.inl ⟨f, none, steer_read hf hw⟩)
    | true =>
      rw [steer_write hf hw]
      exact .inr ((hwrite f _).imp_left fun h => ⟨f, _, h⟩)

theorem hold_port (s : State) (i j : Initiator) (t : Txn) (o : Owner) :
    (s.hold i t o).port j = if i = j then { s.port i with txn := .held t o } else s.port j := by
  rw [← setPort_port]
  unfold State.hold
  dsimp only
  split <;> rfl

theorem issue_port (s : State) (i j : Initiator) (t : Txn) (f : FrameNo) (g : Option FrameNo) :
    (s.issue i t f g).port j =
      if i = j then { s.port i with txn := .steered t f g (if g.isSome then 2 else 1) }
      else s.port j := by
  rw [← setPort_port]
  cases g <;> rfl

/-- R88: a transaction's record is its initiator's own. -/
theorem checkAndSteer_port_of_ne {s : State} {i j : Initiator} (t : Txn) (h : i ≠ j) :
    (s.checkAndSteer i t).port j = s.port j := by
  rcases checkAndSteer_cases s i t with ⟨r, e⟩ | ⟨f, g, e⟩ | ⟨o, fl, -, e⟩
  · rw [e, State.answer, setPort_port, if_neg h]
  · rw [e, issue_port, if_neg h]
  · rw [e, hold_port, if_neg h]

/-- R97: a write is held on no place but one that is CLAIMED. -/
theorem checkAndSteer_not_waiting {s : State} {p : Owner} (h : s.place p = .empty) (i : Initiator)
    (t : Txn) : ((s.checkAndSteer i t).port i).txn.waitsOn ≠ some p := by
  rcases checkAndSteer_cases s i t with ⟨r, e⟩ | ⟨f, g, e⟩ | ⟨o, fl, ho, e⟩
  · rw [e, State.answer, setPort_port, if_pos rfl]; nofun
  · rw [e, issue_port, if_pos rfl]; nofun
  · rw [e, hold_port, if_pos rfl]
    rintro ⟨rfl⟩
    have := claimOn_some ho
    rw [h] at this
    cases this

/-! ## Held writes taken anew -/

theorem retranslate_cases (s : State) (i : Initiator) :
    ((s.port i).txn.waitsOn = none ∧ s.retranslate i = s) ∨
    ∃ t, s.retranslate i = s.checkAndSteer i t := by
  unfold State.retranslate
  cases (s.port i).txn with
  | held t o => exact .inr ⟨t, rfl⟩
  | _ => exact .inl ⟨rfl, rfl⟩

theorem retranslate_port_of_ne {s : State} {i j : Initiator} (h : i ≠ j) :
    (s.retranslate i).port j = s.port j := by
  rcases retranslate_cases s i with ⟨-, e⟩ | ⟨t, e⟩
  · rw [e]
  · rw [e, checkAndSteer_port_of_ne t h]

theorem retranslate_not_waiting {s : State} {p : Owner} (h : s.place p = .empty) (i : Initiator) :
    ((s.retranslate i).port i).txn.waitsOn ≠ some p := by
  rcases retranslate_cases s i with ⟨hw, e⟩ | ⟨t, e⟩
  · rw [e, hw]; nofun
  · rw [e]; exact checkAndSteer_not_waiting h i t

theorem retranslate_keeps_empty {s : State} {p : Owner} (h : s.place p = .empty) (i : Initiator) :
    (s.retranslate i).place p = .empty :=
  retranslateFold_keeps_empty [i] h

theorem retranslateFold_port_of_notMem {l : List Initiator} {j : Initiator} (h : j ∉ l) (s : State) :
    (l.foldl (fun t i => t.retranslate i) s).port j = s.port j := by
  induction l generalizing s with
  | nil => rfl
  | cons i l ih =>
    obtain ⟨hi, hl⟩ := not_or.1 (mt List.mem_cons.2 h)
    rw [List.foldl_cons, ih hl, retranslate_port_of_ne (Ne.symm hi)]

/-- R98: the writes of a list taken anew, none of them waits on a place that is EMPTY. -/
theorem retranslateFold_not_waiting {p : Owner} {j : Initiator} {l : List Initiator} {s : State}
    (h : s.place p = .empty) (hj : j ∈ l ∨ (s.port j).txn.waitsOn ≠ some p) :
    ((l.foldl (fun t i => t.retranslate i) s).port j).txn.waitsOn ≠ some p := by
  induction l generalizing s with
  | nil => exact hj.resolve_left nofun
  | cons i l ih =>
    refine ih (retranslate_keeps_empty h i) ?_
    by_cases hij : i = j
    · subst hij
      exact .inr (retranslate_not_waiting h i)
    · refine hj.imp (fun hm => (List.mem_cons.1 hm).resolve_left (Ne.symm hij)) fun hw => ?_
      rwa [retranslate_port_of_ne hij]

/-- R98: once a place is given up no write waits on it, and the writes that did not wait on it are as they
were. -/
theorem releasePlace_ports {s : State} {o : Owner}
    (h : ∀ i, (s.port i).txn.waitsOn = some o ↔ i ∈ (s.place o).held) (i : Initiator) :
    ((s.releasePlace o).port i).txn.waitsOn ≠ some o ∧
    ((s.port i).txn.waitsOn ≠ some o → (s.releasePlace o).port i = s.port i) := by
  have hi := h i
  unfold State.releasePlace
  cases hp : s.place o with
  | empty =>
    rw [hp] at hi
    exact ⟨fun hw => absurd (hi.1 hw) List.not_mem_nil, fun _ => rfl⟩
  | requested fl =>
    rw [hp] at hi
    exact ⟨fun hw => absurd (hi.1 hw) List.not_mem_nil, fun _ => rfl⟩
  | claimed fl held =>
    rw [hp] at hi
    have htest (u : State) : (u.testRequests fl).port i = u.port i := by
      rw [testRequests_frame]; rfl
    dsimp only
    rw [htest]
    refine ⟨retranslateFold_not_waiting (setPlace_place_self s o .empty) ?_, fun hw =>
      retranslateFold_port_of_notMem (mt hi.2 hw) _⟩
    exact (em (i ∈ held)).imp id fun hn hw => hn (hi.1 hw)

/-! ## Operations a requester has under way -/

/-- A requester has no operation waiting, and none granted that still belongs to its work. -/
def NoWork (s : State) (r : Requester) : Prop :=
  ∀ k : Socket, (∀ op ∈ (s.arb k).waiting, op.req ≠ r) ∧
    ∀ op ∈ (s.arb k).port, op.req = r → op.standing ≠ .live

theorem NoWork.of_arbs {s t : State} {r : Requester} (h : NoWork s r) (e : t.arbs = s.arbs) :
    NoWork t r := by
  unfold NoWork State.arb at h ⊢
  rwa [e]

theorem NoWork.request {s : State} {r : Requester} (h : NoWork s r) {op : ModOp} (ho : op.req ≠ r) :
    NoWork (s.request op) r := by
  intro k
  obtain ⟨hw, hp⟩ := h k
  have harb : (s.request op).arb k = { s.arb k with
      waiting := (s.arb k).waiting ++ if socketOf op.fl.frame = k then [op] else [] } := by
    rw [request_eq, State.arb]
    simp
  rw [harb]
  refine ⟨fun x hx => (List.mem_append.1 hx).elim (hw x) fun hx => ?_, hp⟩
  split at hx
  · rwa [List.mem_singleton.1 hx]
  · cases hx

theorem NoWork.checkAndSteer {s : State} {c : ChanNo} (h : NoWork s (.channel c)) (i : Initiator)
    (t : Txn) : NoWork (s.checkAndSteer i t) (.channel c) := by
  rcases checkAndSteer_cases s i t with ⟨r, e⟩ | ⟨f, g, e⟩ | ⟨o, fl, -, e⟩
  · rw [e]; exact h.of_arbs rfl
  · rw [e]
    have hport (p : Port) : NoWork (s.setPort i p) (.channel c) := h.of_arbs rfl
    cases g with
    | none => exact (hport _).request (by simp [liveOp])
    | some g => exact ((hport _).request (by simp [liveOp])).request (by simp [liveOp])
  · rw [e]; exact h.of_arbs (by rw [hold_frame])

theorem NoWork.retranslateFold {c : ChanNo} (l : List Initiator) {s : State}
    (h : NoWork s (.channel c)) :
    NoWork (l.foldl (fun t i => t.retranslate i) s) (.channel c) := by
  induction l generalizing s with
  | nil => exact h
  | cons i l ih =>
    refine ih ?_
    show NoWork (s.retranslate i) (.channel c)
    rcases retranslate_cases s i with ⟨-, e⟩ | ⟨t, e⟩
    · rwa [e]
    · rw [e]; exact h.checkAndSteer i t

/-- R96: a claim granted to another owner gives the channel no work. -/
theorem NoWork.claimAndRead {s : State} {c : ChanNo} (h : NoWork s (.channel c)) {o : Owner}
    (ho : o ≠ .channel c) (fl : FrameLine) : NoWork (s.claimAndRead o fl) (.channel c) := by
  have hplace (p : Place) : NoWork ((s.unorder o).setPlace o p) (.channel c) := h.of_arbs rfl
  cases o with
  | channel d =>
    exact (hplace _).request fun e => ho (congrArg Owner.channel (Requester.channel.inj e))
  | scrubber =>
    exact NoWork.request ((hplace (.claimed fl [])).of_arbs rfl) (by simp [liveOp])

theorem NoWork.chooseScrub {s : State} {c : ChanNo} (h : NoWork s (.channel c)) :
    NoWork s.chooseScrub (.channel c) := by
  have hask (u : State) (hu : NoWork u (.channel c)) (fl : FrameLine) :
      NoWork (u.askAndTest .scrubber fl) (.channel c) := by
    unfold State.askAndTest
    split
    · exact hu.claimAndRead (by simp) fl
    · exact hu.of_arbs (by rw [askClaim_frame])
  have hscrub (p : Scrubber) : NoWork { s with scrub := p } (.channel c) := h.of_arbs rfl
  unfold State.chooseScrub
  split
  · exact hask _ (hscrub _) _
  · split
    · exact hask _ (hscrub _) _
    · exact hscrub _

theorem NoWork.finishScrub {s : State} {c : ChanNo} (h : NoWork s (.channel c)) :
    NoWork s.finishScrub (.channel c) := by
  unfold State.finishScrub
  have hscrub (p : Scrubber) : NoWork { s with scrub := p } (.channel c) := h.of_arbs rfl
  dsimp only
  split
  · exact (hscrub _).chooseScrub
  · exact hscrub _

/-! ## A channel whose place is given up -/

/-- The channel has no place in the claim table and no work at the arbiters. -/
structure Freed (s : State) (c : ChanNo) : Prop where
  place : s.place (.channel c) = .empty
  noWork : NoWork s (.channel c)

/-- R96: the test of another owner's request leaves a channel freed. -/
theorem Freed.testOne {s : State} {c : ChanNo} (h : Freed s c) (fl : FrameLine) (o : Owner) :
    Freed (s.testOne fl o) c := by
  unfold State.testOne
  split
  · next hr =>
    have ho : o ≠ .channel c := by rintro rfl; rw [h.place] at hr; cases hr
    have hgrant : Freed (s.claimAndRead o fl) c :=
      ⟨(claimAndRead_place_of_ne (Ne.symm ho)).trans h.place, h.noWork.claimAndRead ho fl⟩
    unfold State.grantClaim
    split
    · exact hgrant
    · split
      · exact hgrant
      · refine ⟨?_, NoWork.finishScrub (h.noWork.of_arbs rfl)⟩
        rw [finishScrub_place_channel, setPlace_place_of_ne (by simp)]
        exact h.place
  · exact h

theorem Freed.testRequests {s : State} {c : ChanNo} (h : Freed s c) (fl : FrameLine) :
    Freed (s.testRequests fl) c := by
  unfold State.testRequests
  generalize s.reqOrder = l
  induction l generalizing s with
  | nil => exact h
  | cons o l ih => exact ih (h.testOne fl o)

/-- R65, R98: a channel with no work under way that gives up its place is freed. -/
theorem releasePlace_freed {s : State} {c : ChanNo} (h : NoWork s (.channel c)) :
    Freed (s.releasePlace (.channel c)) c := by
  unfold State.releasePlace
  cases hp : s.place (.channel c) with
  | empty => exact ⟨hp, h⟩
  | requested fl => exact ⟨setPlace_place_self _ _ _, h.of_arbs rfl⟩
  | claimed fl held =>
    exact Freed.testRequests
      ⟨retranslateFold_keeps_empty held (setPlace_place_self _ _ _),
        NoWork.retranslateFold held (h.of_arbs rfl)⟩ fl

end Sys2Proof.Machine.FrameProofs
end

section
/-! What an abort leaves (R63 to R66), and RETIRE of a TARGET frame (R31, R43, R67). -/

namespace Sys2Proof.Machine.FrameProofs

open Sys2Proof Sys2Proof.Machine Sys2Proof.Machine.Laws Sys2Proof.Machine.MapProofs

section
variable (s : State) (c : ChanNo) (m : Migration) (source : FrameNo) (target' : FrameRec)
  (cause : LastOutcome)

/-- R65: the tables of an abort leave the channel no work at the arbiters. -/
theorem abortTables_noWork : NoWork (s.abortTables c m source target' cause) (.channel c) := by
  intro k
  have harb : (s.abortTables c m source target' cause).arb k =
      (s.arb k).abandon (.channel c) .aborted := by
    rw [abandon_channel]
    simp [State.abortTables, State.arb]
  rw [harb, abandon_channel]
  refine ⟨fun op hop => by simpa using (List.mem_filter.1 hop).2, fun op hop hreq => ?_⟩
  obtain ⟨x, -, rfl⟩ := List.mem_map.1 hop
  split
  · nofun
  · next hx =>
    rw [if_neg hx] at hreq
    exact fun hlive => hx ⟨hreq, hlive⟩

/-- R63 to R66: the abort's tables with the channel's place given up, whatever the flags and the queues of
the event are. -/
theorem abortLeaves_release {s : State} (h : heldPresent s) (flags : BitVec 13) (cmdQ : List CmdWord)
    (rspQ : List Response) :
    AbortLeaves s { ({ s.abortTables c m source target' cause with
        flags := flags, cmdQ := cmdQ }.releasePlace (.channel c)) with rspQ := rspQ }
      c m source target' cause := by
  obtain ⟨u, hu⟩ : ∃ u : State, u = { s.abortTables c m source target' cause with
    flags := flags, cmdQ := cmdQ } := ⟨_, rfl⟩
  have hwork : NoWork u (.channel c) :=
    (abortTables_noWork s c m source target' cause).of_arbs (by rw [hu])
  have hport (i : Initiator) : u.port i = s.port i := by rw [hu]; rfl
  have hplace : u.place (.channel c) = s.place (.channel c) := by rw [hu]; rfl
  have hports := releasePlace_ports (s := u) (o := .channel c) fun i => by
    rw [hport, hplace]; exact h i _
  obtain ⟨hempty, hnone⟩ := releasePlace_freed hwork
  have e := releasePlace_frame u (.channel c)
  have hflags : (u.releasePlace (.channel c)).flags = flags := by rw [e, hu]
  have hcmdQ : (u.releasePlace (.channel c)).cmdQ = cmdQ := by rw [e, hu]
  have htables : ({ s.abortTables c m source target' cause with
      flags := (u.releasePlace (.channel c)).flags
      cmdQ := (u.releasePlace (.channel c)).cmdQ } : State) = u := by rw [hflags, hcmdQ, hu]
  rw [← hu]
  refine ⟨congrArg (fun v : State => { v.releasePlace (.channel c) with rspQ := rspQ }) htables.symm,
    ?_, hempty, fun i => (hports i).1, fun i hi => ?_, hnone⟩
  · refine (congrArg (fun v : State => { v with rspQ := rspQ }) e).trans ?_
    dsimp only
    rw [hflags, hcmdQ, hu]
  · rw [← hport i] at hi ⊢
    exact (hports i).2 hi

end

/-- R31, R32: a frame marked and retired in one event, its slice's place changed between. -/
theorem setSuspect_retireFrame (s : State) (f : FrameNo) (cause : Cause) (i : SliceNo) (l : SliceLoc) :
    ((s.setSuspect f cause).setLoc i l).retireFrame f =
      { s with
        slices := s.slices.set i { s.slice i with loc := l }
        frames := s.frames.set f { s.frame f with state := .retired, suspect := some cause }
        flags := s.flags ||| Flag.frameSuspect.mask ||| Flag.frameRetired.mask } := by
  simp [State.retireFrame, State.setSuspect, State.setLoc, State.setSlice, State.setFrameState,
    State.setFrame, State.raise, State.frame, State.slice]

/-- R31, R67: the marking, the abort and the retirement of a migration's target are the tables of one
abort. -/
theorem abortChannel_targetRetired {s : State} {c : ChanNo} {m : Migration} {source : FrameNo}
    (hm : (s.chan c).state.migration = some m) (hl : (s.slice m.slice).loc = .migrating source c) :
    (s.setSuspect m.target .software).abortChannel c .targetRetired =
      ({ s.abortTables c m source
            { s.frame m.target with state := .retired, suspect := some .software } .targetRetired with
          flags := s.flags ||| Flag.frameSuspect.mask ||| Flag.frameRetired.mask |||
            Flag.migAborted.mask }).releasePlace (.channel c) := by
  have ha : (fun a : Arbiter => a.abandon (.channel c) .aborted) = _ :=
    funext fun a => abandon_channel a c
  have hm' : ((s.setSuspect m.target .software).chan c).state.migration = some m := hm
  have hl' : ((s.setSuspect m.target .software).slice m.slice).loc = .migrating source c := hl
  have hret (u : State) : u.returnTarget m .targetRetired = u.retireFrame m.target := if_pos rfl
  unfold State.abortChannel State.abandonCopy State.abortRecords
  congr 1
  rw [hm']
  dsimp only
  rw [revertSlice_migrating hl', hret, ha, setSuspect_retireFrame]
  rfl

/-- R23: the channel that names a TARGET frame is found by it. -/
theorem targetChan_eq {s : State} (h : MapLaws s) {c : ChanNo} {m : Migration}
    (hm : (s.chan c).state.migration = some m) : s.targetChan m.target = some c := by
  obtain ⟨d, n, hd, hn, ht⟩ := targetChan_of_target h (target_of h hm)
  rw [hd, h.target.2 d c m.target (by rw [hn, ← ht]; rfl) (by rw [hm]; rfl)]

/-- R31, R67: what RETIRE of a migration's target answers. -/
theorem retireTarget_eq {s : State} (h : MapLaws s) {c : ChanNo} {m : Migration} {source : FrameNo}
    (hm : (s.chan c).state.migration = some m) (hl : (s.slice m.slice).loc = .migrating source c) :
    s.retireTarget m.target =
      State.done
        (({ s.abortTables c m source
            { s.frame m.target with state := .retired, suspect := some .software } .targetRetired with
          flags := s.flags ||| Flag.frameSuspect.mask ||| Flag.frameRetired.mask |||
            Flag.migAborted.mask }).releasePlace (.channel c))
        (word4 m.target.val 6 0xFF 4) (word4 c.val 0 0 0) := by
  have hr : m.target ∉ s.retireQ := fun hm' => by
    have := ((retireLaw_iff.1 h.retire).2.2.1 _ hm').1
    rw [target_of h hm] at this
    cases this
  rw [State.retireTarget, targetChan_eq h hm]
  dsimp only
  rw [abortChannel_targetRetired hm hl]
  obtain ⟨u, hu⟩ : ∃ u : State, u = { s.abortTables c m source
      { s.frame m.target with state := .retired, suspect := some .software } .targetRetired with
    flags := s.flags ||| Flag.frameSuspect.mask ||| Flag.frameRetired.mask |||
      Flag.migAborted.mask } := ⟨_, rfl⟩
  have e := releasePlace_frame u (.channel c)
  rw [← hu]
  have hrec : (u.releasePlace (.channel c)).frame m.target =
      { s.frame m.target with state := .retired, suspect := some .software } := by
    rw [frame_set (s := s) (by rw [e, hu]; rfl) m.target, if_pos rfl]
  have hq : m.target ∉ (u.releasePlace (.channel c)).retireQ := by rw [e, hu]; exact hr
  rw [State.retireDone, retirePos_retired hq (by rw [hrec]), hrec]
  rfl

end Sys2Proof.Machine.FrameProofs

open Sys2Proof Sys2Proof.Machine Sys2Proof.Machine.Laws Sys2Proof.Machine.MapProofs
  Sys2Proof.Machine.FrameProofs

/-- Settles O10: the marking and the abort are one abort's tables, and what gives up the channel's place
leaves it freed. -/
theorem retireOfATargetAbortsItsChannel : Obligations.RetireOfATargetAbortsItsChannel := by
  intro s w rest f c m source ht hf h hc hp hm htarget hl
  subst htarget
  have hlaws : MapLaws { s with cmdQ := rest } :=
    SameMap.laws (s := s) (by constructor <;> intros <;> rfl) h
  obtain ⟨run, hrun, -, hrunTarget, -⟩ := retireCommand_guarded (s := { s with cmdQ := rest }) hf
  have hcmd := (hrun.trans (retire_guarded_in hp)).trans ((hrunTarget (target_of h hm)).trans
    (retireTarget_eq hlaws hm hl))
  refine ⟨_, exec_of_takes (exec_retire s) ht hcmd,
    abortLeaves_release c m source _ .targetRetired hc.held _ rest _,
    congrArg State.flags (releasePlace_frame _ _), congrArg State.cmdQ (releasePlace_frame _ _), ?_⟩
  show (State.releasePlace _ _).rspQ ++ _ = _
  rw [releasePlace_frame]
  rfl

end

section
/-! Ranges and counts as a whole: what a command may do to error counts, queue lengths, the policy record,
the level flag's place and the form of the modules' contents (`Tame`), said once for each shared operation. -/

namespace Sys2Proof.Machine.RangeProofs

open Sys2Proof Sys2Proof.Machine Sys2Proof.Machine.Laws Sys2Proof.Machine.MapProofs
  Sys2Proof.Machine.FrameProofs

/-! ## Relations between the state before and after an event -/

/-- The error counts, the two queues of the command unit, the policy record and the level flag's place are
the same, and the modules' contents stay in form. -/
structure Quiet (s t : State) : Prop where
  corrected : ∀ f, (t.frame f).corrected = (s.frame f).corrected
  uncorrectable : ∀ f, (t.frame f).uncorrectable = (s.frame f).uncorrectable
  cmdQ : t.cmdQ = s.cmdQ
  rspQ : t.rspQ = s.rspQ
  policy : t.policy = s.policy
  level : t.flags.getLsbD 0 = s.flags.getLsbD 0
  modules : modulesWf s.modules → modulesWf t.modules

/-- What a command other than CLEAR_COUNTS may do to a frame's counts (R24): neither goes down, and but for
an import commit they rise by at most one together. -/
def CountsRise (c : Instr) (r r' : FrameRec) : Prop :=
  r.corrected ≤ r'.corrected ∧ r.uncorrectable ≤ r'.uncorrectable ∧
  (c ≠ .importEnd → r'.corrected + r'.uncorrectable ≤ r.corrected + r.uncorrectable + 1)

/-- What every command does within the ranges: it keeps them, keeps the modules' contents in form, and short
of a power event and CLEAR_COUNTS lets counts rise alone. -/
structure Tame (c : Instr) (s t : State) : Prop where
  ranges : RangeLaws s → RangeLaws t
  modules : modulesWf s.modules → modulesWf t.modules
  counts : RangeLaws s → isPowerEvent c = false → c ≠ .clearCounts →
    ∀ f, CountsRise c (s.frame f) (t.frame f)

theorem Quiet.refl (s : State) : Quiet s s := ⟨fun _ => rfl, fun _ => rfl, rfl, rfl, rfl, rfl, id⟩

theorem Quiet.trans {s t u : State} (a : Quiet s t) (b : Quiet t u) : Quiet s u where
  corrected f := (b.corrected f).trans (a.corrected f)
  uncorrectable f := (b.uncorrectable f).trans (a.uncorrectable f)
  cmdQ := b.cmdQ.trans a.cmdQ
  rspQ := b.rspQ.trans a.rspQ
  policy := b.policy.trans a.policy
  level := b.level.trans a.level
  modules h := b.modules (a.modules h)

/-- An event is quiet that leaves the frames' records, the sticky flags and the modules alone too. -/
theorem Quiet.of_fields {s t : State} (hf : t.frames = s.frames) (hc : t.cmdQ = s.cmdQ)
    (hr : t.rspQ = s.rspQ) (hp : t.policy = s.policy) (hl : t.flags = s.flags)
    (hm : t.modules = s.modules) : Quiet s t := by
  have hrec (f : FrameNo) : t.frame f = s.frame f := by rw [State.frame, hf]; rfl
  exact ⟨fun f => by rw [hrec], fun f => by rw [hrec], hc, hr, hp, by rw [hl], by rw [hm]; exact id⟩

theorem Quiet.rangeLaws {s t : State} (q : Quiet s t) (h : RangeLaws s) : RangeLaws t where
  counts f := by rw [q.corrected, q.uncorrectable]; exact h.counts f
  commands := q.cmdQ ▸ h.commands
  responses := q.rspQ ▸ h.responses
  threshold := q.policy ▸ h.threshold
  spareLow := q.policy ▸ h.spareLow
  interval := q.policy ▸ h.interval
  reserve := q.policy ▸ h.reserve
  levelFlag := q.level.trans h.levelFlag

theorem CountsRise.of_eq {c : Instr} {r r' : FrameRec} (hc : r'.corrected = r.corrected)
    (hu : r'.uncorrectable = r.uncorrectable) : CountsRise c r r' :=
  ⟨hc.ge, hu.ge, fun _ => by omega⟩

theorem Quiet.tame {c : Instr} {s t : State} (q : Quiet s t) : Tame c s t :=
  ⟨q.rangeLaws, q.modules, fun _ _ _ f => .of_eq (q.corrected f) (q.uncorrectable f)⟩

theorem Tame.then_quiet {c : Instr} {s t u : State} (a : Tame c s t) (q : Quiet t u) :
    Tame c s u where
  ranges h := q.rangeLaws (a.ranges h)
  modules h := q.modules (a.modules h)
  counts h hp hc f := by
    have := a.counts h hp hc f
    unfold CountsRise at this ⊢
    rwa [q.corrected, q.uncorrectable]

theorem Quiet.then_tame {c : Instr} {s t u : State} (q : Quiet s t) (b : Tame c t u) :
    Tame c s u where
  ranges h := b.ranges (q.rangeLaws h)
  modules h := b.modules (q.modules h)
  counts h hp hc f := by
    have := b.counts (q.rangeLaws h) hp hc f
    unfold CountsRise at this ⊢
    rwa [q.corrected, q.uncorrectable] at this

/-! ## Frames, queues and flags -/

section
variable (s : State)

theorem quiet_setFrame {f : FrameNo} {r : FrameRec} (hc : r.corrected = (s.frame f).corrected)
    (hu : r.uncorrectable = (s.frame f).uncorrectable) : Quiet s (s.setFrame f r) := by
  refine ⟨fun g => ?_, fun g => ?_, rfl, rfl, rfl, rfl, id⟩
  · rw [setFrame_frame]; split
    · next h => rw [hc, h]
    · rfl
  · rw [setFrame_frame]; split
    · next h => rw [hu, h]
    · rfl

theorem quiet_setFrameState (f : FrameNo) (st : FrameState) : Quiet s (s.setFrameState f st) :=
  quiet_setFrame s rfl rfl

/-- R170: no sticky flag stands in RESPONSE_READY's place. -/
theorem mask_level {fl : Flag} (h : fl ≠ .responseReady) : fl.mask.getLsbD 0 = false := by
  cases fl
  case responseReady => exact absurd rfl h
  all_goals rfl

theorem quiet_raise {fl : Flag} (h : fl ≠ .responseReady) : Quiet s (s.raise fl) := by
  refine ⟨fun _ => rfl, fun _ => rfl, rfl, rfl, rfl, ?_, id⟩
  rw [raise_flags, BitVec.getLsbD_or, mask_level h, Bool.or_false]

theorem quiet_raiseIf (b : Bool) {fl : Flag} (h : fl ≠ .responseReady) : Quiet s (s.raiseIf b fl) := by
  cases b
  · exact Quiet.refl s
  · exact quiet_raise s h

theorem quiet_bump : Quiet s s.bump := .of_fields rfl rfl rfl rfl rfl rfl

theorem quiet_bumpIf (b : Bool) : Quiet s (s.bumpIf b) := by
  cases b
  · exact Quiet.refl s
  · exact quiet_bump s

theorem quiet_setLoc (i : SliceNo) (l : SliceLoc) : Quiet s (s.setLoc i l) :=
  .of_fields rfl rfl rfl rfl rfl rfl

theorem quiet_removeSpare (f : FrameNo) : Quiet s (s.removeSpare f) := by
  have hq : Quiet s { s with spareQ := s.spareQ.erase f } := .of_fields rfl rfl rfl rfl rfl rfl
  exact (hq.trans (quiet_raiseIf _ _ (by simp))).trans (quiet_raiseIf _ _ (by simp))

theorem quiet_joinSpare (f : FrameNo) : Quiet s (s.joinSpare f) :=
  (quiet_setFrameState s f .spare).trans (.of_fields rfl rfl rfl rfl rfl rfl)

theorem quiet_retireFrame (f : FrameNo) : Quiet s (s.retireFrame f) :=
  (quiet_setFrameState s f .retired).trans (quiet_raise _ (by simp))

theorem quiet_setSuspect (f : FrameNo) (c : Cause) : Quiet s (s.setSuspect f c) := by
  have hset : Quiet s (s.setFrame f { s.frame f with suspect := some c }) := quiet_setFrame s rfl rfl
  exact hset.trans (quiet_raise _ (by simp))

theorem quiet_markSuspect (f : FrameNo) (c : Cause) : Quiet s (s.markSuspect f c) := by
  refine (quiet_setSuspect s f c).trans ?_
  unfold State.markSuspect
  split
  · exact quiet_retireFrame _ f
  · exact (quiet_removeSpare _ f).trans (quiet_retireFrame _ f)
  · dsimp only
    split
    · exact .of_fields rfl rfl rfl rfl rfl rfl
    · exact Quiet.refl _
  · exact Quiet.refl _

theorem quiet_releaseFrame (f : FrameNo) : Quiet s (s.releaseFrame f) := by
  unfold State.releaseFrame
  split
  · refine (quiet_retireFrame s f).trans ?_
    rw [leaveRetireQ_frame]
    exact .of_fields rfl rfl rfl rfl rfl rfl
  · exact quiet_setFrameState s f .free

/-! ## Outcomes -/

/-- R24: an outcome raises one count by at most one, up to 255. -/
theorem counted_rises (c : Instr) {r : FrameRec} (h : r.corrected ≤ 255 ∧ r.uncorrectable ≤ 255)
    (o : ReadOutcome) : CountsRise c r (r.counted o) := by
  obtain ⟨hc, hu⟩ := h
  cases o with
  | clean => exact .of_eq rfl rfl
  | corrected => simp only [CountsRise, FrameRec.counted]; omega
  | uncorrectable => simp only [CountsRise, FrameRec.counted]; omega

theorem counted_inRange {r : FrameRec} (h : r.corrected ≤ 255 ∧ r.uncorrectable ≤ 255)
    (o : ReadOutcome) : (r.counted o).corrected ≤ 255 ∧ (r.counted o).uncorrectable ≤ 255 := by
  cases o with
  | clean => exact h
  | corrected => exact ⟨Nat.min_le_left _ _, h.2⟩
  | uncorrectable => exact ⟨h.1, Nat.min_le_left _ _⟩

theorem countOnly_tame (c : Instr) (f : FrameNo) (o : ReadOutcome) : Tame c s (s.countOnly f o) := by
  have hrec := fun g => countOnly_frameRec s f g o
  refine ⟨fun h => ?_, fun h => by rw [countOnly_frame]; exact h, fun h _ _ g => ?_⟩
  · have hcounts (g : FrameNo) : ((s.countOnly f o).frame g).corrected ≤ 255 ∧
        ((s.countOnly f o).frame g).uncorrectable ≤ 255 := by
      rw [hrec]; split
      · exact counted_inRange (h.counts f) o
      · exact h.counts g
    rw [countOnly_frame] at hcounts ⊢
    exact { h with counts := hcounts }
  · rw [hrec]; split
    · next hfg => rw [← hfg]; exact counted_rises c (h.counts f) o
    · exact .of_eq rfl rfl

theorem countAndMark_tame (c : Instr) (f : FrameNo) (o : ReadOutcome) :
    Tame c s (s.countAndMark f o) := by
  have h := countOnly_tame s c f o
  rcases countAndMark_cases s f o with ⟨-, e⟩ | ⟨cause, -, e, -, -⟩
  · rwa [e]
  · rw [e]; exact h.then_quiet (quiet_markSuspect _ f cause)

theorem takeOutcome_tame (c : Instr) (f : FrameNo) (o : ReadOutcome) :
    Tame c s (s.takeOutcome f o) :=
  (countAndMark_tame s c f o).then_quiet (quiet_bumpIf _ _)

/-! ## Poison list, module operations and claims -/

theorem quiet_addPoison (i : SliceNo) (l : LineNo) : Quiet s (s.addPoison i l) := by
  unfold State.addPoison
  split
  · exact Quiet.refl s
  · have hq : Quiet s { s with poison := s.poison ++ [(i, l)] } := .of_fields rfl rfl rfl rfl rfl rfl
    exact hq.trans (quiet_raise _ (by simp))
  · exact quiet_raise s (by simp)

theorem quiet_dropPoison (i : SliceNo) (l : LineNo) : Quiet s (s.dropPoison i l) :=
  .of_fields rfl rfl rfl rfl rfl rfl

theorem quiet_complete (k : Socket) (op : ModOp) : Quiet s (s.complete k op) := by
  have hm := fun h : modulesWf s.modules => complete_wf h k op
  rw [complete_frame] at hm ⊢
  exact ⟨fun _ => rfl, fun _ => rfl, rfl, rfl, rfl, rfl, hm⟩

theorem quiet_setPort (i : Initiator) (p : Port) : Quiet s (s.setPort i p) :=
  .of_fields rfl rfl rfl rfl rfl rfl

theorem quiet_setArb (k : Socket) (a : Arbiter) : Quiet s (s.setArb k a) :=
  .of_fields rfl rfl rfl rfl rfl rfl

theorem quiet_setChan (c : ChanNo) (r : Channel) : Quiet s (s.setChan c r) :=
  .of_fields rfl rfl rfl rfl rfl rfl

theorem quiet_scrub (p : Scrubber) : Quiet s { s with scrub := p } :=
  .of_fields rfl rfl rfl rfl rfl rfl

theorem quiet_request (op : ModOp) : Quiet s (s.request op) := .of_fields rfl rfl rfl rfl rfl rfl

theorem quiet_answer (i : Initiator) (r : PortResp) (d : PortData) : Quiet s (s.answer i r d) :=
  quiet_setPort s i _

theorem quiet_grantClaim (o : Owner) (fl : FrameLine) : Quiet s (s.grantClaim o fl) := by
  rw [grantClaim_frame]
  exact .of_fields rfl rfl rfl rfl rfl rfl

theorem quiet_testRequests (fl : FrameLine) : Quiet s (s.testRequests fl) := by
  rw [testRequests_frame]
  exact .of_fields rfl rfl rfl rfl rfl rfl

theorem quiet_checkAndSteer (i : Initiator) (t : Txn) : Quiet s (s.checkAndSteer i t) := by
  rw [admit_frame]
  exact .of_fields rfl rfl rfl rfl rfl rfl

theorem quiet_releasePlace (o : Owner) : Quiet s (s.releasePlace o) := by
  rw [releasePlace_frame]
  exact .of_fields rfl rfl rfl rfl rfl rfl

theorem quiet_endScrub : Quiet s s.endScrub := by
  rw [endScrub_frame]
  exact .of_fields rfl rfl rfl rfl rfl rfl

theorem quiet_chooseScrub : Quiet s s.chooseScrub := by
  rw [chooseScrub_frame]
  exact .of_fields rfl rfl rfl rfl rfl rfl

theorem quiet_beginCopy (c : ChanNo) : Quiet s (s.beginCopy c) := by
  rw [beginCopy_frame]
  exact .of_fields rfl rfl rfl rfl rfl rfl

theorem quiet_startScrubber : Quiet s s.startScrubber := quiet_scrub s _

theorem quiet_stopScrubber : Quiet s s.stopScrubber := quiet_scrub s _

/-! ## Migrations -/

theorem quiet_returnTarget (m : Migration) (cause : LastOutcome) :
    Quiet s (s.returnTarget m cause) := by
  unfold State.returnTarget
  split
  · exact quiet_retireFrame s _
  · split
    · exact quiet_setFrameState s _ _
    · exact quiet_joinSpare s _

theorem quiet_abortRecords (c : ChanNo) (cause : LastOutcome) : Quiet s (s.abortRecords c cause) := by
  unfold State.abortRecords
  split
  · exact Quiet.refl s
  · next m _ =>
    have hrevert : Quiet s (s.revertSlice m.slice) := by
      rw [revertSlice_frame]
      exact .of_fields rfl rfl rfl rfl rfl rfl
    have hbroken (u : State) (q : List ChanNo) : Quiet u { u with broken := q } :=
      .of_fields rfl rfl rfl rfl rfl rfl
    exact ((((hrevert.trans (quiet_returnTarget _ m cause)).trans (quiet_setChan _ c _)).trans
      (hbroken _ _)).trans (quiet_raiseIf _ _ (by simp))).trans (quiet_bump _)

theorem quiet_abortChannel (c : ChanNo) (cause : LastOutcome) : Quiet s (s.abortChannel c cause) := by
  refine (quiet_abortRecords s c cause).trans ?_
  rw [State.abortChannel, abandonCopy_frame]
  exact .of_fields rfl rfl rfl rfl rfl rfl

theorem quiet_setUpMigration (i : SliceNo) (f g : FrameNo) (c : ChanNo) (j : Option ChanNo)
    (b : InitiatedBy) : Quiet s (s.setUpMigration i f g c j b) := by
  have htake : Quiet s (s.takeTarget g) := by
    unfold State.takeTarget
    split
    · exact (quiet_removeSpare s g).trans (quiet_setFrameState _ g _)
    · exact quiet_setFrameState s g _
  exact ((htake.trans (quiet_setLoc _ i _)).trans (quiet_setChan _ c _)).trans (quiet_bump _)

theorem quiet_commit (c : ChanNo) (m : Migration) (source : FrameNo) :
    Quiet s (s.commit c m source) := by
  have hmove : Quiet s (((s.setLoc m.slice (.mapped m.target)).setFrameState m.target
      (.bound m.slice)).releaseFrame source) :=
    ((quiet_setLoc s _ _).trans (quiet_setFrameState _ _ _)).trans (quiet_releaseFrame _ _)
  have hstart (l : List ChanNo) (u : State) : Quiet u (l.foldl (fun t d => t.startChannel d) u) := by
    rw [startChannels_eq]
    exact .of_fields rfl rfl rfl rfl rfl rfl
  exact (((hmove.trans (quiet_setChan _ c _)).trans (quiet_raise _ (by simp))).trans
    (hstart _ _)).trans (quiet_bump _)

end

end Sys2Proof.Machine.RangeProofs
end

section
/-! The commands of the command unit within the ranges (R24, R140, R144, R150). -/

namespace Sys2Proof.Machine.RangeProofs

open Sys2Proof Sys2Proof.Machine Sys2Proof.Machine.Laws Sys2Proof.Machine.MapProofs
  Sys2Proof.Machine.FrameProofs

/-! ## Taking a command -/

/-- R144: a command takes a word from the head of its queue, and adds one response, for which there is
room. -/
theorem takeCommand_tame {c : Instr} {s : State} {forCode : Byte → Bool}
    {run : CmdWord → State → CmdOut} (hrun : ∀ w u, Tame c u (run w u).state)
    (hq : ∀ w u, (run w u).state.rspQ = u.rspQ) : Tame c s (s.takeCommand forCode run) := by
  unfold State.takeCommand State.whenOn
  split
  · split
    · exact (Quiet.refl s).tame
    · next w rest hcmd =>
      split
      · next htake =>
        obtain ⟨t, ht⟩ : ∃ t, t = (run w { s with cmdQ := rest }).state := ⟨_, rfl⟩
        have hrun' : Tame c { s with cmdQ := rest } t := ht ▸ hrun w _
        have hroom : t.rspQ.length < Config.responseCapacity := by
          rw [ht, hq]; simpa using (Bool.and_eq_true_iff.1 htake).2
        have hrest (h : RangeLaws s) : RangeLaws { s with cmdQ := rest } :=
          { h with commands := by have := h.commands; rw [hcmd] at this; exact Nat.le_of_succ_le this }
        unfold CmdOut.respond
        rw [← ht]
        exact ⟨fun h => { hrun'.ranges (hrest h) with responses := by simpa using hroom },
          hrun'.modules, fun h => hrun'.counts (hrest h)⟩
      · exact (Quiet.refl s).tame
  · exact (Quiet.refl s).tame

theorem takeCommand_quiet {c : Instr} {s : State} {forCode : Byte → Bool}
    {run : CmdWord → State → CmdOut} (hrun : ∀ w u, Quiet u (run w u).state) :
    Tame c s (s.takeCommand forCode run) :=
  takeCommand_tame (fun w u => (hrun w u).tame) fun w u => (hrun w u).rspQ

section
variable (w : CmdWord) (s : State)

theorem guarded_quiet {ps : List Phase} {b : Bool} {run : CmdOut} (h : Quiet s run.state) :
    Quiet s (s.guarded ps b run).state := by
  unfold State.guarded
  split
  · split
    · exact Quiet.refl s
    · exact h
  · exact Quiet.refl s

/-! ## The map unit -/

theorem map_quiet : Quiet s (mapCommand w s).state := by
  have hbind (i : SliceNo) (f : FrameNo) (p : Bool) (d : DomainSet) : Quiet s (s.bindSlice i f p d) := by
    have hspare : Quiet s (if (s.frame f).state = .spare then s.removeSpare f else s) := by
      split
      · exact quiet_removeSpare s f
      · exact Quiet.refl s
    have hmapped (u : State) (r : SliceRec) (ph : Phase) :
        Quiet u { u.setSlice i r with phase := ph }.bump := .of_fields rfl rfl rfl rfl rfl rfl
    exact (hspare.trans (quiet_setFrameState _ f _)).trans (hmapped _ _ _)
  unfold mapCommand
  split
  · refine guarded_quiet s ?_
    split
    · exact Quiet.refl s
    · exact Quiet.refl s
    · split
      · exact Quiet.refl s
      · exact hbind ..
  · exact Quiet.refl s

theorem unmap_quiet : Quiet s (unmapCommand w s).state := by
  have hunbind (i : SliceNo) (f : FrameNo) : Quiet s (s.unbindSlice i f) :=
    ((quiet_setLoc s i _).trans (quiet_releaseFrame _ f)).trans (.of_fields rfl rfl rfl rfl rfl rfl)
  unfold unmapCommand
  split
  · refine guarded_quiet s ?_
    split
    · exact Quiet.refl s
    · exact Quiet.refl s
    · exact hunbind ..
  · exact Quiet.refl s

theorem setAttr_quiet : Quiet s (setAttrCommand w s).state := by
  have hset (i : SliceNo) (r : SliceRec) : Quiet s (s.setSlice i r) :=
    .of_fields rfl rfl rfl rfl rfl rfl
  unfold setAttrCommand
  split
  · exact guarded_quiet s ((hset _ _).trans (quiet_bumpIf _ _))
  · exact Quiet.refl s

theorem lockMap_quiet : Quiet s (lockMapCommand w s).state :=
  guarded_quiet s (.of_fields rfl rfl rfl rfl rfl rfl)

/-! ## The frame unit -/

theorem addSpare_quiet : Quiet s (addSpareCommand w s).state := by
  unfold addSpareCommand
  split
  · refine guarded_quiet s ?_
    split
    · exact (quiet_joinSpare s _).trans (quiet_bump _)
    · exact Quiet.refl s
  · exact Quiet.refl s

theorem withdrawSpare_quiet : Quiet s (withdrawSpareCommand w s).state := by
  unfold withdrawSpareCommand
  split
  · refine guarded_quiet s ?_
    split
    · exact ((quiet_removeSpare s _).trans (quiet_setFrameState _ _ _)).trans (quiet_bump _)
    · exact Quiet.refl s
  · exact Quiet.refl s

theorem retireTarget_quiet (f : FrameNo) : Quiet s (s.retireTarget f).state := by
  unfold State.retireTarget
  split
  · exact (quiet_setSuspect s f _).trans (quiet_abortChannel _ _ _)
  · exact ((quiet_setSuspect s f _).trans (quiet_retireFrame _ f)).trans (quiet_bump _)

theorem retire_quiet : Quiet s (retireCommand w s).state := by
  have hmark (f : FrameNo) : Quiet s (s.markSuspect f .software).bump :=
    (quiet_markSuspect s f _).trans (quiet_bump _)
  unfold retireCommand
  split
  · next f _ =>
    refine guarded_quiet s ?_
    split
    · exact Quiet.refl s
    · exact Quiet.refl s
    · exact Quiet.refl s
    · exact retireTarget_quiet s f
    · split
      · exact Quiet.refl s
      · exact hmark f
    · exact hmark f
    · exact hmark f
  · exact Quiet.refl s

/-- R44: CLEAR_COUNTS sets two counts to 0. -/
theorem clearCounts_tame : Tame .clearCounts s (clearCountsCommand w s).state := by
  have hzero (f : FrameNo) :
      Tame .clearCounts s (s.setFrame f { s.frame f with corrected := 0, uncorrectable := 0 }) := by
    refine ⟨fun h => { h with counts := fun g => ?_ }, id, fun _ _ hc => absurd rfl hc⟩
    rw [setFrame_frame]
    split
    · exact ⟨Nat.zero_le _, Nat.zero_le _⟩
    · exact h.counts g
  unfold clearCountsCommand State.guarded
  split
  · split
    · split
      · exact (Quiet.refl s).tame
      · split
        · exact (Quiet.refl s).tame
        · exact hzero _
    · exact (Quiet.refl s).tame
  · exact (Quiet.refl s).tame

theorem clearCounts_rspQ : (clearCountsCommand w s).state.rspQ = s.rspQ := by
  unfold clearCountsCommand State.guarded
  repeat' split
  all_goals rfl

/-! ## The migration engine and the poison list -/

theorem migrate_quiet : Quiet s (migrateCommand w s).state := by
  unfold migrateCommand
  split
  · refine guarded_quiet s ?_
    unfold State.migrate
    split
    · exact Quiet.refl s
    · exact Quiet.refl s
    · split
      · exact Quiet.refl s
      · split
        · exact Quiet.refl s
        · split
          · exact Quiet.refl s
          · exact quiet_setUpMigration ..
  · exact Quiet.refl s

theorem cancel_quiet : Quiet s (cancelCommand w s).state := by
  unfold cancelCommand
  split
  · refine guarded_quiet s ?_
    split
    · exact Quiet.refl s
    · exact quiet_abortChannel ..
  · exact Quiet.refl s

theorem clearPoison_quiet : Quiet s (clearPoisonCommand w s).state := by
  unfold clearPoisonCommand
  split
  · refine guarded_quiet s ?_
    split
    · exact quiet_dropPoison ..
    · exact Quiet.refl s
  · exact Quiet.refl s

/-! ## The policy and ADOPT_DEFAULT -/

/-- R150: the ranges of the policy record's fields. -/
def PolicyInRange (p : Policy) : Prop :=
  (1 ≤ p.threshold ∧ p.threshold ≤ 255) ∧ p.spareLow ≤ 63 ∧ p.scrubInterval ≤ 65535 ∧
    p.defaultReserve ≤ 16

/-- R151: SET_POLICY takes a record in range alone. -/
theorem argPolicy_inRange {w : CmdWord} {p : Policy} (h : argPolicy w = some p) : PolicyInRange p := by
  have hbyte (n : Nat) : byteOf w.cmd1 n ≤ 255 := Nat.le_of_lt_succ (Nat.mod_lt _ (by decide))
  have hhalf : lowHalf w.cmd2 ≤ 65535 := Nat.le_of_lt_succ (Nat.mod_lt _ (by decide))
  unfold argPolicy at h
  dsimp only at h
  split at h
  · next hr =>
    cases h
    exact ⟨⟨Nat.one_le_iff_ne_zero.2 hr.2.1, hbyte 1⟩, hr.2.2.1, hhalf, hr.2.2.2⟩
  · cases h

theorem setPolicy_rangeLaws {s : State} (h : RangeLaws s) {p : Policy} (hp : PolicyInRange p) :
    RangeLaws { s with policy := p } :=
  { h with threshold := hp.1, spareLow := hp.2.1, interval := hp.2.2.1, reserve := hp.2.2.2 }

theorem followInterval_quiet (n : Nat) : Quiet s (s.followInterval n) := by
  unfold State.followInterval
  dsimp only
  split
  · exact Quiet.refl s
  · split
    · exact quiet_stopScrubber s
    · exact quiet_startScrubber s

/-- R151: SET_POLICY is refused, or writes a record in range; what follows is quiet. -/
theorem setPolicyCommand_cases :
    (setPolicyCommand w s).state = s ∨
    ∃ p, PolicyInRange p ∧ Quiet { s with policy := p } (setPolicyCommand w s).state := by
  unfold setPolicyCommand
  split
  · next p hp =>
    refine .inr ⟨p, argPolicy_inRange hp, ?_⟩
    dsimp only [State.done]
    split
    · exact followInterval_quiet _ _
    · exact Quiet.refl _
  · exact .inl rfl

theorem setPolicy_tame : Tame .setPolicy s (setPolicyCommand w s).state := by
  rcases setPolicyCommand_cases w s with e | ⟨p, hp, q⟩
  · rw [e]; exact (Quiet.refl s).tame
  · refine Tame.then_quiet ?_ q
    exact ⟨fun h => setPolicy_rangeLaws h hp, id, fun _ _ _ _ => .of_eq rfl rfl⟩

theorem setPolicy_rspQ : (setPolicyCommand w s).state.rspQ = s.rspQ := by
  rcases setPolicyCommand_cases w s with e | ⟨p, -, q⟩
  · rw [e]
  · exact q.rspQ

theorem adoptDefault_quiet : Quiet s (adoptDefaultCommand w s).state := by
  have hrec (f : FrameNo) := adopt_frameRec s f
  have e : s.adopt = { s with
      slices := s.adopt.slices, frames := s.adopt.frames, spareQ := s.adopt.spareQ
      phase := s.adopt.phase, generation := s.adopt.generation } := by
    unfold State.adopt
    rw [bumpIf_frame]
  refine guarded_quiet s ?_
  show Quiet s s.adopt
  refine ⟨fun f => by rw [hrec], fun f => by rw [hrec], ?_, ?_, ?_, ?_, ?_⟩
  · rw [e]
  · rw [e]
  · rw [e]
  · rw [e]
  · rw [e]; exact id

/-! ## Map images -/

theorem endImport_quiet : Quiet s s.endImport := .of_fields rfl rfl rfl rfl rfl rfl

theorem importBegin_quiet : Quiet s (importBeginCommand w s).state :=
  guarded_quiet s (.of_fields rfl rfl rfl rfl rfl rfl)

theorem importRecord_quiet : Quiet s (importRecordCommand w s).state := by
  have href (st : Status) : Quiet s
      (match s.phase, s.importS with
        | .importing, some t => s.endRefused st t
        | _, _ => s.refuse st).state := by
    split
    · exact endImport_quiet s
    · exact Quiet.refl s
  unfold importRecordCommand
  dsimp only
  split
  · exact href _
  · refine guarded_quiet s ?_
    split
    · exact Quiet.refl s
    · split
      · exact .of_fields rfl rfl rfl rfl rfl rfl
      · exact href _

theorem importAbort_quiet : Quiet s (importAbortCommand w s).state :=
  guarded_quiet s (endImport_quiet s)

theorem exportBegin_quiet : Quiet s (exportBeginCommand w s).state :=
  guarded_quiet s (.of_fields rfl rfl rfl rfl rfl rfl)

theorem exportNext_quiet : Quiet s (exportNextCommand w s).state := by
  refine guarded_quiet s ?_
  split
  · exact Quiet.refl s
  · split
    · exact .of_fields rfl rfl rfl rfl rfl rfl
    · exact .of_fields rfl rfl rfl rfl rfl rfl

/-- R166: an import commit adds an image's counts to the live ones, up to 255. -/
theorem importedFrame_rises {r : FrameRec} (h : r.corrected ≤ 255 ∧ r.uncorrectable ≤ 255)
    (img : ImgFrame) :
    CountsRise .importEnd r (importedFrame r img) ∧
    (importedFrame r img).corrected ≤ 255 ∧ (importedFrame r img).uncorrectable ≤ 255 := by
  obtain ⟨hc, hu⟩ := h
  unfold importedFrame
  split
  · exact ⟨.of_eq rfl rfl, hc, hu⟩
  · exact ⟨⟨le_min hc (Nat.le_add_right _ _), le_min hu (Nat.le_add_right _ _), fun hne => absurd rfl hne⟩,
      satAdd_le _ _, satAdd_le _ _⟩

/-- R166, R167: a commit's tables are those of the map and the import session. -/
theorem importTables_frame (t : ImportSession) : ∃ slices frames spareQ retireQ,
    s.importTables t = { s with
      slices := slices, frames := frames, spareQ := spareQ, retireQ := retireQ
      phase := .active, importS := none } := ⟨_, _, _, _, rfl⟩

theorem importTables_tame (t : ImportSession) : Tame .importEnd s (s.importTables t) := by
  have hrec (f : FrameNo) :
      (s.importTables t).frame f = importedFrame (s.frame f) (t.frame f) := by
    simp [State.importTables, State.frame]
  obtain ⟨slices, frames, spareQ, retireQ, e⟩ := importTables_frame s t
  rw [e] at hrec ⊢
  refine ⟨fun h => { h with counts := fun f => ?_ }, id, fun h _ _ f => ?_⟩
  · rw [hrec]; exact (importedFrame_rises (h.counts f) _).2
  · rw [hrec]; exact (importedFrame_rises (h.counts f) _).1

theorem importCommit_quiet (t : ImportSession) : Quiet (s.importTables t) (s.importCommit t) :=
  (((quiet_startScrubber _).trans (quiet_raiseIf _ _ (by simp))).trans
    (quiet_raiseIf _ _ (by simp))).trans (quiet_bumpIf _ _)

theorem importCommit_tame (t : ImportSession) : Tame .importEnd s (s.importCommit t) :=
  (importTables_tame s t).then_quiet (importCommit_quiet s t)

/-- R163 to R167: IMPORT_END ends the session, or commits it, or is refused. -/
theorem importEndCommand_cases :
    Quiet s (importEndCommand w s).state ∨ ∃ t, (importEndCommand w s).state = s.importCommit t := by
  unfold importEndCommand State.guarded
  split
  · rw [if_neg (by simp)]
    split
    · exact .inl (Quiet.refl s)
    · next t _ =>
      unfold State.importEnd
      split
      · exact .inl (endImport_quiet s)
      · split
        · exact .inl (endImport_quiet s)
        · split
          · exact .inl (endImport_quiet s)
          · split
            · exact .inl (endImport_quiet s)
            · exact .inr ⟨t, rfl⟩
  · exact .inl (Quiet.refl s)

theorem importEnd_tame : Tame .importEnd s (importEndCommand w s).state := by
  rcases importEndCommand_cases w s with q | ⟨t, e⟩
  · exact q.tame
  · rw [e]; exact importCommit_tame s t

theorem importEnd_rspQ : (importEndCommand w s).state.rspQ = s.rspQ := by
  rcases importEndCommand_cases w s with q | ⟨t, e⟩
  · exact q.rspQ
  · obtain ⟨slices, frames, spareQ, retireQ, etables⟩ := importTables_frame s t
    rw [e, (importCommit_quiet s t).rspQ, etables]

/-! ## The queries -/

theorem querySlice_quiet : Quiet s (querySliceCommand w s).state := by
  unfold querySliceCommand
  split <;> exact Quiet.refl s

theorem queryFrame_quiet : Quiet s (queryFrameCommand w s).state := by
  unfold queryFrameCommand
  split <;> exact Quiet.refl s

theorem queryChannel_quiet : Quiet s (queryChannelCommand w s).state := by
  unfold queryChannelCommand
  split <;> exact Quiet.refl s

theorem queryPoison_quiet : Quiet s (queryPoisonCommand w s).state := by
  unfold queryPoisonCommand
  dsimp only
  split <;> exact Quiet.refl s

theorem queryPart_quiet : Quiet s (queryPartCommand w s).state := by
  unfold queryPartCommand
  dsimp only
  split <;> exact Quiet.refl s

end

end Sys2Proof.Machine.RangeProofs
end

section
/-! The events of the part within the ranges, and from them the statements about every step (R24, R140,
R144, R150, R168). -/

namespace Sys2Proof.Machine.RangeProofs

open Sys2Proof Sys2Proof.Machine Sys2Proof.Machine.Laws Sys2Proof.Machine.MapProofs
  Sys2Proof.Machine.FrameProofs

section
variable {c : Instr} (s : State)

theorem whenOn_tame {t : State} (h : Tame c s t) : Tame c s (s.whenOn t) := by
  unfold State.whenOn
  split
  · exact h
  · exact (Quiet.refl s).tame

theorem tame_refl : Tame c s s := (Quiet.refl s).tame

/-! ## Power and the warm restart -/

theorem powerOn_tame (codes : PresenceCodes) : Tame (.powerOnReset codes) s
    (State.powerOn codes s.pending s.warmPin s.modules) :=
  ⟨fun _ => powerOn_rangeLaws .., id, fun _ hp => nomatch hp⟩

theorem powerOff_tame : Tame .powerGoodFall s s.powerOff := by
  refine ⟨fun _ => ?_, id, fun _ hp => nomatch hp⟩
  have h := powerOn_rangeLaws (Vector.replicate 4 0) s.pending s.warmPin s.modules
  exact { h with levelFlag := show (0 : BitVec 13).getLsbD 0 = false by simp }

/-- R104, R134: a warm restart empties the two queues and sets its flag alone. -/
theorem clearSessions_tame : Tame c s (clearSessions s) :=
  ⟨fun h => { h with
      commands := Nat.zero_le _, responses := Nat.zero_le _
      levelFlag := mask_level (fl := .warmStart) (by simp) },
    id, fun _ _ _ _ => .of_eq rfl rfl⟩

theorem resetChannels_quiet : Quiet s s.resetChannels := by
  have hfold (l : List ChanNo) (u : State) :
      Quiet u (l.foldl (fun t d => t.abortRecords d .reset) u) := by
    induction l generalizing u with
    | nil => exact Quiet.refl u
    | cons d l ih => exact (quiet_abortRecords u d _).trans (ih _)
  have hbroken (u : State) : Quiet u { u with broken := [] } := .of_fields rfl rfl rfl rfl rfl rfl
  exact (hfold _ s).trans (hbroken _)

theorem restartScrubber_quiet : Quiet s s.restartScrubber := by
  unfold State.restartScrubber
  dsimp only
  split
  · exact (quiet_scrub s _).trans (quiet_startScrubber _)
  · exact quiet_scrub s _

theorem quiet_walk (k : Walk) : Quiet s { s with walk := k } := .of_fields rfl rfl rfl rfl rfl rfl

theorem restartWalk_quiet : Quiet s s.restartWalk := by
  unfold State.restartWalk
  dsimp only
  split
  · exact (quiet_walk s _).trans (quiet_request _ _)
  · exact quiet_walk s _

theorem restart_tame : Tame c s s.restart := by
  have hcut : Quiet s (cutWork s) := .of_fields rfl rfl rfl rfl rfl rfl
  rw [restart_eq]
  exact (((hcut.trans (resetChannels_quiet _)).then_tame (clearSessions_tame _)).then_quiet
    (restartScrubber_quiet _)).then_quiet (restartWalk_quiet _)

/-! ## The data port -/

theorem takeTransaction_quiet (i : Initiator) (a : PortAccess) (addr : Nat) :
    Quiet s (s.takeTransaction i a addr) := by
  unfold State.takeTransaction
  dsimp only
  split
  · exact (quiet_setPort s i _).trans (quiet_answer _ i _ _)
  · split
    · exact (quiet_setPort s i _).trans (quiet_answer _ i _ _)
    · exact (quiet_setPort s i _).trans (quiet_checkAndSteer _ i _)

theorem readLost_quiet (t : Txn) : Quiet s (s.readLost t) := by
  unfold State.readLost
  split
  · exact quiet_raise s (by simp)
  · exact (quiet_addPoison s _ _).trans (quiet_raise _ (by simp))

theorem readOutcome_tame (k : Socket) (op : ModOp) (i : Initiator) (t : Txn) (o : ReadOutcome) :
    Tame c s (s.readOutcome k op i t o) := by
  have hm : Tame c s ((s.complete k op).takeOutcome op.fl.frame o) :=
    (quiet_complete s k op).then_tame (takeOutcome_tame _ c _ o)
  unfold State.readOutcome
  dsimp only
  split
  · exact (hm.then_quiet (readLost_quiet _ t)).then_quiet (quiet_answer _ i _ _)
  · exact hm.then_quiet (quiet_answer _ i _ _)

theorem writeComplete_quiet (k : Socket) (op : ModOp) (i : Initiator) (t : Txn) (f : FrameNo)
    (g : Option FrameNo) (n : Nat) : Quiet s (s.writeComplete k op i t f g n) := by
  refine (quiet_complete s k op).trans (Quiet.trans ?_ (quiet_testRequests _ _))
  split
  · unfold State.writeDone
    split
    · exact (quiet_dropPoison _ _ _).trans (quiet_answer _ _ _ _)
    · exact quiet_answer _ _ _ _
  · exact quiet_setPort _ _ _

theorem abandonedComplete_tame (k : Socket) (op : ModOp) (o : ReadOutcome) :
    Tame c s (s.abandonedComplete k op o) := by
  refine (quiet_complete s k op).then_tame (Tame.then_quiet ?_ (quiet_testRequests _ _))
  split
  · exact takeOutcome_tame _ c _ o
  · exact tame_refl _

/-! ## The migration engine -/

theorem copyLost_tame (ch : ChanNo) (m : Migration) (fl : FrameLine) :
    Tame c s (s.copyLost ch m fl) := by
  have hadd : Tame c s ((s.countAndMark fl.frame .uncorrectable).addPoison m.slice fl.line) :=
    (countAndMark_tame s c _ _).then_quiet (quiet_addPoison _ _ _)
  unfold State.copyLost
  dsimp only
  split
  · exact (hadd.then_quiet (quiet_bumpIf _ _)).then_quiet (quiet_request _ _)
  · exact ((hadd.then_quiet (quiet_bumpIf _ _)).then_quiet (quiet_setChan _ ch _)).then_quiet
      (quiet_request _ _)
  · exact hadd.then_quiet (quiet_abortChannel _ ch _)

theorem copyRead_tame (k : Socket) (op : ModOp) (ch : ChanNo) (m : Migration) (o : ReadOutcome) :
    Tame c s (s.copyRead k op ch m o) := by
  unfold State.copyRead
  dsimp only
  split
  · exact (quiet_complete s k op).then_tame (copyLost_tame _ ch m _)
  · exact (quiet_complete s k op).then_tame
      ((takeOutcome_tame _ c _ o).then_quiet (quiet_request _ _))

theorem copyDone_quiet (k : Socket) (op : ModOp) (ch : ChanNo) (m : Migration) (f : FrameNo) :
    Quiet s (s.copyDone k op ch m f) := by
  refine (quiet_complete s k op).trans ?_
  unfold State.copyDone
  dsimp only
  split
  · exact ((quiet_setChan _ ch _).trans (quiet_releasePlace _ _)).trans (quiet_beginCopy _ ch)
  · exact (quiet_commit _ ch _ f).trans (quiet_releasePlace _ _)

/-! ## The patrol scrubber -/

theorem timerExpires_quiet : Quiet s s.timerExpires := by
  unfold State.timerExpires
  dsimp only
  split
  · exact (quiet_scrub s _).trans (quiet_chooseScrub _)
  · exact quiet_scrub s _

theorem scrubRead_tame (k : Socket) (op : ModOp) (o : ReadOutcome) :
    Tame c s (s.scrubRead k op o) := by
  refine (quiet_complete s k op).then_tame ?_
  unfold State.scrubRead
  dsimp only
  split
  · exact (quiet_endScrub _).tame
  · refine Tame.then_quiet (takeOutcome_tame _ c op.fl.frame .corrected) ?_
    unfold State.scrubCorrected
    dsimp only
    split
    · exact (quiet_scrub _ _).trans (quiet_request _ _)
    · exact quiet_endScrub _
  · refine Tame.then_quiet (takeOutcome_tame _ c op.fl.frame .uncorrectable) ?_
    unfold State.scrubLost
    dsimp only
    split
    · exact (quiet_addPoison _ _ _).trans (quiet_endScrub _)
    · exact quiet_endScrub _

/-! ## The inventory walk -/

theorem walkRequest_quiet (f : FrameNo) (p : TestPass) (l : LineNo) :
    Quiet s (s.walkRequest f p l) := by
  cases p
  · exact (quiet_walk s _).trans (quiet_request _ _)
  · exact (quiet_walk s _).trans (quiet_request _ _)

theorem walkWritten_quiet (f : FrameNo) : Quiet s (s.walkWritten f) := by
  unfold State.walkWritten
  split
  · exact walkRequest_quiet ..
  · exact walkRequest_quiet ..

theorem testComplete_quiet (f : FrameNo) : Quiet s (s.testComplete f) := by
  have hverdict : Quiet s (s.testVerdict f) := by
    unfold State.testVerdict
    split
    · exact ((quiet_setSuspect s f _).trans (quiet_retireFrame _ f)).trans (quiet_bump _)
    · exact (quiet_setFrameState s f _).trans (quiet_bump _)
  refine hverdict.trans ?_
  unfold State.testComplete
  dsimp only
  split
  · exact (quiet_walk _ _).trans (walkRequest_quiet ..)
  · have hend (u : State) (k : Walk) : Quiet u { u with walk := k, phase := .staged } :=
      .of_fields rfl rfl rfl rfl rfl rfl
    exact ((hend _ _).trans (quiet_startScrubber _)).trans (quiet_raise _ (by simp))

theorem walkRead_tame (f : FrameNo) (o : ReadOutcome) : Tame c s (s.walkRead f o) := by
  obtain ⟨u, hu, hfail⟩ : ∃ u, u = (if o = .uncorrectable then
      { s.countOnly f o with walk := { (s.countOnly f o).walk with failed := true } }
      else s.countOnly f o) ∧ Quiet (s.countOnly f o) u := by
    refine ⟨_, rfl, ?_⟩
    split
    · exact quiet_walk _ _
    · exact Quiet.refl _
  refine ((countOnly_tame s c f o).then_quiet hfail).then_quiet ?_
  unfold State.walkRead
  dsimp only
  rw [← hu]
  split
  · exact walkRequest_quiet ..
  · exact testComplete_quiet ..

/-! ## The control aperture -/

theorem apertureWrite_tame {a : BusAccess} {effect : State → State} (h : Tame c s (effect s)) :
    Tame c s (s.apertureWrite a effect) := by
  have hreply (u : State) (r : Option ApReply) : Quiet u { u with apReply := r } :=
    .of_fields rfl rfl rfl rfl rfl rfl
  refine whenOn_tame s ?_
  split
  · exact h.then_quiet (hreply _ _)
  · exact (hreply s _).tame

/-- R139, R140: a word joins the command queue if there is room. -/
theorem submit_tame : Tame c s s.submit := by
  unfold State.submit
  split
  · next hroom =>
    exact ⟨fun h => { h with commands := by simpa using hroom }, id, fun _ _ _ _ => .of_eq rfl rfl⟩
  · exact (quiet_raise s (by simp)).tame

theorem rspPop_tame : Tame c s { s with rspQ := s.rspQ.tail } := by
  refine ⟨fun h => { h with responses := ?_ }, id, fun _ _ _ _ => .of_eq rfl rfl⟩
  rw [List.length_tail]
  exact (Nat.sub_le _ _).trans h.responses

theorem clearFlags_tame (v : BitVec 13) : Tame c s (s.clearFlags v) := by
  refine ⟨fun h => { h with levelFlag := ?_ }, id, fun _ _ _ _ => .of_eq rfl rfl⟩
  rw [clearFlags_flags, BitVec.getLsbD_and, h.levelFlag, Bool.false_and]

theorem writePlain_quiet (r : PlainReg) (v : Word32) : Quiet s (s.writePlain r v) := by
  cases r
  case cmd => exact .of_fields rfl rfl rfl rfl rfl rfl
  all_goals exact Quiet.refl s

end

/-! ## Every command -/

/-- What a row's command leaves is tame. -/
def RunsTame (c : Instr) (s : State) : Prop := ∃ t, exec c s = .next t ∧ Tame c s t

/-- Every command, from every state. -/
theorem exec_runsTame (c : Instr) (s : State) : RunsTame c s := by
  cases c with
  | powerOnReset codes => exact ⟨_, rfl, powerOn_tame s codes⟩
  | powerGoodFall => exact ⟨_, rfl, powerOff_tame s⟩
  | warmRestart =>
    refine ⟨_, rfl, whenOn_tame s ?_⟩
    split
    · exact restart_tame s
    · exact tame_refl s
  | warmRestartInput active => exact ⟨_, rfl, Quiet.tame (.of_fields rfl rfl rfl rfl rfl rfl)⟩
  | warmRestartWrite a v =>
    refine ⟨_, rfl, apertureWrite_tame s ?_⟩
    split
    · exact Quiet.tame (.of_fields rfl rfl rfl rfl rfl rfl)
    · exact tame_refl s
  | dataPortTransaction i a addr =>
    refine ⟨_, rfl, whenOn_tame s ?_⟩
    split
    · exact (takeTransaction_quiet s i a addr).tame
    · exact tame_refl s
  | dataPortReadOutcome k o =>
    refine ⟨_, rfl, whenOn_tame s ?_⟩
    split
    · split
      · split
        · exact readOutcome_tame ..
        · exact tame_refl s
      · exact tame_refl s
    · exact tame_refl s
  | dataPortWriteComplete k =>
    refine ⟨_, rfl, whenOn_tame s ?_⟩
    split
    · split
      · split
        · exact (writeComplete_quiet ..).tame
        · exact tame_refl s
      · exact tame_refl s
    · exact tame_refl s
  | abandonedOperationComplete k o =>
    refine ⟨_, rfl, whenOn_tame s ?_⟩
    split
    · split
      · exact tame_refl s
      · exact abandonedComplete_tame ..
    · exact tame_refl s
  | arbiterGrant k =>
    refine ⟨_, rfl, whenOn_tame s ?_⟩
    split
    · exact (quiet_setArb s k _).tame
    · exact tame_refl s
  | claimGrant o =>
    refine ⟨_, rfl, whenOn_tame s ?_⟩
    split
    · split
      · exact (quiet_grantClaim s o _).tame
      · exact tame_refl s
    · exact tame_refl s
  | lineCopyBegin c =>
    refine ⟨_, rfl, whenOn_tame s ?_⟩
    split
    · exact (quiet_beginCopy s c).tame
    · exact tame_refl s
  | lineCopyReadOutcome k o =>
    refine ⟨_, rfl, whenOn_tame s ?_⟩
    split
    · split
      · split
        · exact copyRead_tame ..
        · exact tame_refl s
      · exact tame_refl s
    · exact tame_refl s
  | lineCopyComplete k =>
    refine ⟨_, rfl, whenOn_tame s ?_⟩
    split
    · split
      · split
        · exact (copyDone_quiet ..).tame
        · exact tame_refl s
      · exact tame_refl s
    · exact tame_refl s
  | chainBrokenAbort =>
    refine ⟨_, rfl, whenOn_tame s ?_⟩
    split
    · exact (quiet_abortChannel ..).tame
    · exact tame_refl s
  | dispatchStart =>
    refine ⟨_, rfl, whenOn_tame s ?_⟩
    split
    · exact (quiet_setUpMigration ..).tame
    · exact tame_refl s
  | scrubTimerExpiry =>
    refine ⟨_, rfl, whenOn_tame s ?_⟩
    split
    · exact (timerExpires_quiet s).tame
    · exact tame_refl s
  | scrubReadOutcome k o =>
    refine ⟨_, rfl, whenOn_tame s ?_⟩
    split
    · split
      · exact scrubRead_tame ..
      · exact tame_refl s
    · exact tame_refl s
  | scrubWriteBackComplete k =>
    refine ⟨_, rfl, whenOn_tame s ?_⟩
    split
    · split
      · exact ((quiet_complete s k _).trans (quiet_endScrub _)).tame
      · exact tame_refl s
    · exact tame_refl s
  | inventoryWriteComplete k =>
    refine ⟨_, rfl, whenOn_tame s ?_⟩
    split
    · split
      · exact ((quiet_complete s k _).trans (walkWritten_quiet _ _)).tame
      · exact tame_refl s
    · exact tame_refl s
  | inventoryReadOutcome k o =>
    refine ⟨_, rfl, whenOn_tame s ?_⟩
    split
    · split
      · exact (quiet_complete s k _).then_tame (walkRead_tame _ _ _)
      · exact tame_refl s
    · exact tame_refl s
  | submit a v => exact ⟨_, rfl, apertureWrite_tame s (submit_tame s)⟩
  | rspPop a v => exact ⟨_, rfl, apertureWrite_tame s (rspPop_tame s)⟩
  | eventsWrite a v => exact ⟨_, rfl, apertureWrite_tame s (clearFlags_tame s _)⟩
  | eventEnableWrite a v =>
    exact ⟨_, rfl, apertureWrite_tame s (Quiet.tame (.of_fields rfl rfl rfl rfl rfl rfl))⟩
  | faultEnableWrite a v =>
    exact ⟨_, rfl, apertureWrite_tame s (Quiet.tame (.of_fields rfl rfl rfl rfl rfl rfl))⟩
  | registerWrite a r v => exact ⟨_, rfl, apertureWrite_tame s (writePlain_quiet s r v).tame⟩
  | badCommand => exact ⟨_, rfl, takeCommand_quiet fun _ u => Quiet.refl u⟩
  | map => exact ⟨_, rfl, takeCommand_quiet map_quiet⟩
  | unmap => exact ⟨_, rfl, takeCommand_quiet unmap_quiet⟩
  | setAttr => exact ⟨_, rfl, takeCommand_quiet setAttr_quiet⟩
  | querySlice => exact ⟨_, rfl, takeCommand_quiet querySlice_quiet⟩
  | lockMap => exact ⟨_, rfl, takeCommand_quiet lockMap_quiet⟩
  | queryFrame => exact ⟨_, rfl, takeCommand_quiet queryFrame_quiet⟩
  | addSpare => exact ⟨_, rfl, takeCommand_quiet addSpare_quiet⟩
  | withdrawSpare => exact ⟨_, rfl, takeCommand_quiet withdrawSpare_quiet⟩
  | retire => exact ⟨_, rfl, takeCommand_quiet retire_quiet⟩
  | clearCounts => exact ⟨_, rfl, takeCommand_tame clearCounts_tame clearCounts_rspQ⟩
  | migrate => exact ⟨_, rfl, takeCommand_quiet migrate_quiet⟩
  | cancel => exact ⟨_, rfl, takeCommand_quiet cancel_quiet⟩
  | queryChannel => exact ⟨_, rfl, takeCommand_quiet queryChannel_quiet⟩
  | clearPoison => exact ⟨_, rfl, takeCommand_quiet clearPoison_quiet⟩
  | queryPoison => exact ⟨_, rfl, takeCommand_quiet queryPoison_quiet⟩
  | setPolicy => exact ⟨_, rfl, takeCommand_tame setPolicy_tame setPolicy_rspQ⟩
  | queryPart => exact ⟨_, rfl, takeCommand_quiet queryPart_quiet⟩
  | adoptDefault => exact ⟨_, rfl, takeCommand_quiet adoptDefault_quiet⟩
  | importBegin => exact ⟨_, rfl, takeCommand_quiet importBegin_quiet⟩
  | importRecord => exact ⟨_, rfl, takeCommand_quiet importRecord_quiet⟩
  | importEnd => exact ⟨_, rfl, takeCommand_tame importEnd_tame importEnd_rspQ⟩
  | importAbort => exact ⟨_, rfl, takeCommand_quiet importAbort_quiet⟩
  | exportBegin => exact ⟨_, rfl, takeCommand_quiet exportBegin_quiet⟩
  | exportNext => exact ⟨_, rfl, takeCommand_quiet exportNext_quiet⟩

theorem exec_tame {c : Instr} {s t : State} (ht : exec c s = .next t) : Tame c s t := by
  obtain ⟨u, hu, h⟩ := exec_runsTame c s
  rw [hu] at ht
  cases ht
  exact h

/-- A step is quiet, or one command's, from the state without it. -/
theorem step_cases {s t : State} (ht : step s = .next t) :
    Quiet s t ∨ ∃ c rest, exec c { s with pending := rest } = .next t := by
  unfold step at ht
  split at ht
  · cases ht
    exact .inl (.of_fields rfl rfl rfl rfl rfl rfl)
  · next c rest _ => exact .inr ⟨c, rest, ht⟩

theorem step_rangeLaws {s t : State} (h : RangeLaws s) (ht : step s = .next t) : RangeLaws t := by
  rcases step_cases ht with q | ⟨c, rest, hc⟩
  · exact q.rangeLaws h
  · exact (exec_tame hc).ranges { h with }

theorem step_modulesWf {s t : State} (h : modulesWf s.modules) (ht : step s = .next t) :
    modulesWf t.modules := by
  rcases step_cases ht with q | ⟨c, rest, hc⟩
  · exact q.modules h
  · exact (exec_tame hc).modules h

/-! ## Lines stored and read back -/

/-- R99: a stored line reads back, and every other line is as it was. -/
theorem readLine_storeLine (m : Modules) (k j : Nat) (d : Line) :
    readLine (storeLine m k d) j = if j = k then some d else readLine m j := by
  induction m with
  | nil => rfl
  | cons e rest ih =>
    obtain ⟨a, x⟩ := e
    unfold storeLine
    split
    · rfl
    · split
      · next hk =>
        subst hk
        unfold readLine
        split <;> rfl
      · next hlt hne =>
        show (if j = a then some x else readLine (storeLine rest k d) j) =
          if j = k then some d else if j = a then some x else readLine rest j
        rw [ih]
        by_cases hja : j = a
        · rw [if_pos hja, if_pos hja, if_neg (by omega)]
        · rw [if_neg hja, if_neg hja]

end Sys2Proof.Machine.RangeProofs

open Sys2Proof Sys2Proof.Machine Sys2Proof.Machine.RangeProofs

/-- Settles O51: each command is tame. -/
theorem everyStepKeepsTheRangesAndTheModules : Obligations.EveryStepKeepsTheRangesAndTheModules :=
  ⟨fun _ _ => step_rangeLaws, fun _ _ => step_modulesWf, fun mods k j d _ =>
    readLine_storeLine mods k j d⟩

/-- Settles O57: each command is tame. -/
theorem countsOnlyRise : Obligations.CountsOnlyRise :=
  fun _ _ _ f h hp hc ht => (exec_tame ht).counts h hp hc f

end

section
/-! Claims of the line copies: how one is asked for, granted and given up (R55, R56, R65, R90, R95, R96, R98). -/

namespace Sys2Proof.Machine.ChannelProofs

open Sys2Proof Sys2Proof.Machine Sys2Proof.Machine.Laws Sys2Proof.Machine.MapProofs

/-! ## Held writes taken anew -/

section
variable {s : State} {i : Initiator} {p : Port}

theorem setPort_setPort (q : Port) : (s.setPort i p).setPort i q = s.setPort i q := by
  simp [State.setPort]

/-- R89: a transaction that passes the checks has a source frame. -/
theorem source_of_refusal_none {t : Txn} (h : s.refusal i t = none) :
    ∃ f, (s.slice t.slice).loc.source = some f := by
  cases hl : (s.slice t.slice).loc with
  | unmapped => rw [refusal_unmapped hl] at h; cases h
  | mapped f => exact ⟨f, rfl⟩
  | migrating f c => exact ⟨f, rfl⟩

/-- What a transaction leaves does not depend on the record its initiator had before, but for the answer
that stands. -/
theorem checkAndSteer_setPort (hp : p.answer = (s.port i).answer) (t : Txn) :
    (s.setPort i p).checkAndSteer i t = s.checkAndSteer i t := by
  have htxn (x : TxnState) : (s.setPort i p).setPort i { (s.setPort i p).port i with txn := x } =
      s.setPort i { s.port i with txn := x } := by
    rw [setPort_setPort, setPort_port, if_pos rfl]
    dsimp only
    rw [hp]
  have hissue (f : FrameNo) (g : Option FrameNo) :
      (s.setPort i p).issue i t f g = s.issue i t f g := by
    unfold State.issue
    rw [htxn]
  have hhold (o : Owner) : (s.setPort i p).hold i t o = s.hold i t o := by
    unfold State.hold
    rw [htxn]
  have hwrite (f : FrameNo) (g : Option FrameNo) :
      (s.setPort i p).steerWrite i t f g = s.steerWrite i t f g := by
    have hclaim : (s.setPort i p).claimOn ⟨f, t.line⟩ = s.claimOn ⟨f, t.line⟩ := rfl
    unfold State.steerWrite
    rw [hclaim, hissue]
    cases s.claimOn ⟨f, t.line⟩ with
    | some o => exact hhold o
    | none => rfl
  have hrefusal : (s.setPort i p).refusal i t = s.refusal i t := rfl
  cases hr : s.refusal i t with
  | some r =>
    rw [checkAndSteer_refused hr, checkAndSteer_refused (hrefusal.trans hr)]
    exact setPort_setPort _
  | none =>
    rw [State.checkAndSteer, State.checkAndSteer, hrefusal, hr]
    obtain ⟨f, hf⟩ := source_of_refusal_none hr
    have hf' : ((s.setPort i p).slice t.slice).loc.source = some f := hf
    cases hw : t.op.isWrite with
    | false => exact (steer_read hf' hw).trans ((hissue f none).trans (steer_read hf hw).symm)
    | true => exact (steer_write hf' hw).trans ((hwrite f _).trans (steer_write hf hw).symm)

theorem retranslate_held {t : Txn} {o : Owner} (h : (s.port i).txn = .held t o) :
    s.retranslate i = s.checkAndSteer i t := by
  rw [State.retranslate, h]

theorem retranslate_notHeld (h : ∀ t o, (s.port i).txn ≠ .held t o) : s.retranslate i = s := by
  unfold State.retranslate
  split
  · next t o ht => exact absurd ht (h t o)
  · rfl

end

/-! ## Places given up -/

theorem releasePlace_claimed {s : State} {o : Owner} {fl : FrameLine} {held : List Initiator}
    (h : s.place o = .claimed fl held) :
    s.releasePlace o =
      (held.foldl (fun t i => t.retranslate i) (s.setPlace o .empty)).testRequests fl := by
  rw [State.releasePlace, h]

theorem releasePlace_requested {s : State} {o : Owner} {fl : FrameLine}
    (h : s.place o = .requested fl) : s.releasePlace o = (s.unorder o).setPlace o .empty := by
  rw [State.releasePlace, h]

theorem releasePlace_empty {s : State} {o : Owner} (h : s.place o = .empty) :
    s.releasePlace o = s := by
  rw [State.releasePlace, h]

end Sys2Proof.Machine.ChannelProofs

open Sys2Proof Sys2Proof.Machine Sys2Proof.Machine.MapProofs Sys2Proof.Machine.ChannelProofs

/-- Settles O40: a transaction's checks and steering do not look at its initiator's record. -/
theorem releasedWritesAreTakenAnew : Obligations.ReleasedWritesAreTakenAnew := by
  refine ⟨fun s i t o a addr hp hport hsl hl hop => ?_, fun s o fl held h => releasePlace_claimed h,
    fun s o fl h => releasePlace_requested h, fun s o h => releasePlace_empty h,
    fun s i h => retranslate_notHeld h⟩
  have hdec : decodeAccess addr a = some t.op := by
    rcases hop with ⟨d, rfl, ht⟩ | ⟨d, w, rfl, hw, ht⟩
    · rw [ht]; rfl
    · rw [ht, decodeAccess, show addrWord addr = w from Fin.ext hw]
  have hidle : ((cleared s i).port i).txn = .idle := by simp [cleared]
  have hcleared : cleared (cleared s i) i = cleared s i := setPort_setPort _
  show exec (.dataPortTransaction i a addr) (cleared s i) = _
  rw [exec_transaction_taken (s := cleared s i) hp hidle, takeTransaction_decoded hdec hsl hl, hcleared,
    retranslate_held (t := t) (o := o) (by rw [hport])]
  exact congrArg _ (checkAndSteer_setPort (by rw [hport]) t)

end

section
/-! The grant of a claim: a line that is free, the order of requests, and the scrub that ends (R56, R96, R111,
R115). -/

namespace Sys2Proof.Machine.ChannelProofs

open Sys2Proof Sys2Proof.Machine Sys2Proof.Machine.Laws Sys2Proof.Machine.MapProofs

/-! ## Lines free for a claim -/

theorem isWrite_iff {a : OpAct} : a.isWrite = true ↔ a ≠ .read := by
  cases a <;> simp [OpAct.isWrite]

theorem delaysClaims_false {fl : FrameLine} {op : ModOp} : op.delaysClaims fl = false ↔
    (op.fl = fl → op.act ≠ .read →
      op.req.isDataPort = false ∧ (op.req = .scrubber → op.standing ≠ .restarted)) := by
  rw [← isWrite_iff]
  simp [ModOp.delaysClaims]

/-- R96: both conditions of a grant. -/
theorem lineFree_iff {s : State} {fl : FrameLine} : s.lineFree fl = true ↔
    (∀ p : Owner, (s.place p).claims fl = false) ∧
      ∀ op ∈ (s.arb (socketOf fl.frame)).waiting ++ (s.arb (socketOf fl.frame)).port,
        op.fl = fl → op.act ≠ .read →
        op.req.isDataPort = false ∧ (op.req = .scrubber → op.standing ≠ .restarted) := by
  simp only [State.lineFree, Bool.and_eq_true, Option.isNone_iff_eq_none, claimOn_none,
    Bool.not_eq_true', List.any_eq_false, Bool.not_eq_true, delaysClaims_false]

theorem requests_iff {p : Place} {fl : FrameLine} : p.requests fl = true ↔ p = .requested fl := by
  cases p <;> simp [Place.requests]

theorem lineFree_of_claimed {s : State} {o : Owner} {fl : FrameLine} {held : List Initiator}
    (h : s.place o = .claimed fl held) : s.lineFree fl = false := by
  refine Bool.eq_false_iff.2 fun hf => ?_
  have := (lineFree_iff.1 hf).1 o
  simp [h, Place.claims] at this

/-! ## Claims taken -/

section
variable {s : State} {fl : FrameLine} {o : Owner}

theorem claimAndRead_channel (s : State) (c : ChanNo) (fl : FrameLine) :
    s.claimAndRead (.channel c) fl =
      { s with
        places := s.places.set (ownerPlace (.channel c)) (.claimed fl [])
        reqOrder := s.reqOrder.erase (.channel c)
        arbs := s.arbs.set (socketOf fl.frame)
          { s.arb (socketOf fl.frame) with
            waiting := (s.arb (socketOf fl.frame)).waiting ++ [liveOp (.channel c) fl .read] } } := rfl

theorem claimAndRead_scrubber (s : State) (fl : FrameLine) :
    s.claimAndRead .scrubber fl =
      { s with
        places := s.places.set (ownerPlace .scrubber) (.claimed fl [])
        reqOrder := s.reqOrder.erase .scrubber
        scrub := { s.scrub with stage := .reading }
        arbs := s.arbs.set (socketOf fl.frame)
          { s.arb (socketOf fl.frame) with
            waiting := (s.arb (socketOf fl.frame)).waiting ++ [liveOp .scrubber fl .read] } } := rfl

theorem claimAndRead_place (s : State) (o : Owner) (fl : FrameLine) :
    (s.claimAndRead o fl).place o = .claimed fl [] := by
  cases o <;> exact setPlace_place_self _ _ _

theorem claimAndRead_notFree (s : State) (o : Owner) (fl : FrameLine) :
    (s.claimAndRead o fl).lineFree fl = false := lineFree_of_claimed (claimAndRead_place s o fl)

theorem askClaim_place (s : State) (o : Owner) (fl : FrameLine) :
    (s.askClaim o fl).place o = .requested fl := setPlace_place_self _ _ _

theorem grantClaim_reads (h : o ≠ .scrubber ∨ (s.frame fl.frame).state.inUse = true) :
    s.grantClaim o fl = s.claimAndRead o fl := by
  cases o with
  | channel c => rfl
  | scrubber => exact if_pos (h.resolve_left fun h => h rfl)

theorem grantClaim_ends (h : (s.frame fl.frame).state.inUse = false) :
    s.grantClaim .scrubber fl = ((s.unorder .scrubber).setPlace .scrubber .empty).finishScrub :=
  if_neg (by simp [h])

/-! ## Tests of a line's requests -/

theorem testOne_notFree (h : s.lineFree fl = false) (o : Owner) : s.testOne fl o = s :=
  if_neg (by simp [h])

theorem testOne_notRequested (h : (s.place o).requests fl = false) : s.testOne fl o = s :=
  if_neg (by simp [h])

theorem testOne_granted (h : s.place o = .requested fl) (hf : s.lineFree fl = true) :
    s.testOne fl o = s.grantClaim o fl :=
  if_pos (by rw [requests_iff.2 h, hf]; rfl)

theorem testFold_notFree (h : s.lineFree fl = false) (l : List Owner) :
    l.foldl (fun t o => t.testOne fl o) s = s := by
  induction l with
  | nil => rfl
  | cons o l ih => rw [List.foldl_cons, testOne_notFree h, ih]

theorem testFold_notRequested {l : List Owner} (h : ∀ o ∈ l, (s.place o).requests fl = false) :
    l.foldl (fun t o => t.testOne fl o) s = s := by
  induction l with
  | nil => rfl
  | cons o l ih =>
    obtain ⟨ho, hl⟩ := List.forall_mem_cons.1 h
    rw [List.foldl_cons, testOne_notRequested ho, ih hl]

/-- R96: the earliest request on a free line is granted, and those behind it are tested after. -/
theorem testFold_first {pre post : List Owner} (hf : s.lineFree fl = true)
    (hpre : ∀ p ∈ pre, (s.place p).requests fl = false) (ho : s.place o = .requested fl) :
    (pre ++ o :: post).foldl (fun t o => t.testOne fl o) s =
      post.foldl (fun t o => t.testOne fl o) (s.grantClaim o fl) := by
  rw [List.foldl_append, testFold_notRequested hpre, List.foldl_cons, testOne_granted ho hf]

/-- R96: once a request is granted and its line read, no other is granted on the line. -/
theorem testFold_reads {pre post : List Owner} (hf : s.lineFree fl = true)
    (hpre : ∀ p ∈ pre, (s.place p).requests fl = false) (ho : s.place o = .requested fl)
    (hu : o ≠ .scrubber ∨ (s.frame fl.frame).state.inUse = true) :
    (pre ++ o :: post).foldl (fun t o => t.testOne fl o) s = s.grantClaim o fl := by
  rw [testFold_first hf hpre ho, grantClaim_reads hu, testFold_notFree (claimAndRead_notFree s o fl)]

/-! ## The grant as a command -/

theorem exec_claimGrant_notRequested (h : ∀ gl, s.place o ≠ .requested gl) :
    exec (.claimGrant o) s = .next s := by
  show Host.Outcome.next (s.whenOn _) = _
  congr 1
  cases ho : s.place o with
  | requested gl => exact absurd ho (h gl)
  | _ => exact ite_self s

theorem exec_claimGrant (hp : s.powered = true) (ho : s.place o = .requested fl) :
    exec (.claimGrant o) s =
      .next (if s.lineFree fl && s.firstRequest fl == some o then s.grantClaim o fl else s) := by
  show Host.Outcome.next (s.whenOn _) = _
  rw [State.whenOn, if_pos hp, ho]

theorem firstRequest_eq {pre post : List Owner} (hq : s.reqOrder = pre ++ o :: post)
    (hpre : ∀ p ∈ pre, (s.place p).requests fl = false) (ho : s.place o = .requested fl) :
    s.firstRequest fl = some o := by
  have hnone : pre.find? (fun o => (s.place o).requests fl) = none :=
    List.find?_eq_none.2 fun p hp => by simp [hpre p hp]
  rw [State.firstRequest, hq, List.find?_append, hnone, Option.none_or]
  exact List.find?_cons_of_pos (requests_iff.2 ho)

theorem exec_claimGrant_first {pre post : List Owner} (hp : s.powered = true)
    (hf : s.lineFree fl = true) (hq : s.reqOrder = pre ++ o :: post)
    (hpre : ∀ p ∈ pre, (s.place p).requests fl = false) (ho : s.place o = .requested fl) :
    exec (.claimGrant o) s = .next (s.grantClaim o fl) := by
  rw [exec_claimGrant hp ho, firstRequest_eq hq hpre ho, hf]
  exact congrArg _ (if_pos (by simp))

end

/-! ## A scrub that ends without a read -/

/-- R110: the search finds a frame in use. -/
theorem searchScrub_inUse {s : State} {f : FrameNo} {wrapped : Bool}
    (h : s.searchScrub = some (f, wrapped)) : (s.frame f).state.inUse = true := by
  have hfound {p : FrameNo → Bool} {g : FrameNo}
      (hg : (List.finRange 64).find? (fun f => p f && (s.frame f).state.inUse) = some g) :
      (s.frame g).state.inUse = true := by
    have := List.find?_some hg
    exact (Bool.and_eq_true_iff.1 this).2
  unfold State.searchScrub at h
  dsimp only at h
  split at h
  · next g hg => cases h; exact hfound hg
  · obtain ⟨g, hg, he⟩ := Option.map_eq_some_iff.1 h
    cases he
    exact hfound hg

/-- R110: a scrub that is chosen asks for the claim on a line of a frame in use. -/
theorem chooseScrub_cases (s : State) :
    (∃ p, s.chooseScrub = { s with scrub := p }) ∨
    ∃ p gl, (s.frame gl.frame).state.inUse = true ∧
      s.chooseScrub = ({ s with scrub := p } : State).askAndTest .scrubber gl := by
  unfold State.chooseScrub
  split
  · next hu => exact .inr ⟨_, ⟨s.scrub.frame, s.scrub.line⟩, hu, rfl⟩
  · split
    · next hsearch => exact .inr ⟨_, _, searchScrub_inUse hsearch, rfl⟩
    · exact .inl ⟨_, rfl⟩

/-- What a new scrub leaves of a line that is not its own: the line as free as it was, the channels' requests
in their order, and no request of the scrubber. -/
structure LineKept (s t : State) (fl : FrameLine) : Prop where
  free : s.lineFree fl = true → t.lineFree fl = true
  place : ∀ c : ChanNo, t.place (.channel c) = s.place (.channel c)
  scrubber : (t.place .scrubber).requests fl = false
  order : ∀ (pre post : List Owner) (c : ChanNo), Owner.scrubber ∉ pre →
    s.reqOrder = pre ++ .channel c :: post → ∃ post', t.reqOrder = pre ++ .channel c :: post'

section
variable {s t u : State} {fl : FrameLine}

theorem LineKept.trans (a : LineKept s t fl) (b : LineKept t u fl) : LineKept s u fl where
  free hf := b.free (a.free hf)
  place c := (b.place c).trans (a.place c)
  scrubber := b.scrubber
  order pre post c hpre hq := by
    obtain ⟨post', hq'⟩ := a.order pre post c hpre hq
    exact b.order pre post' c hpre hq'

/-- The scrubber off the line, and no operation new but reads. -/
theorem LineKept.of_fields (hplace : ∀ c : ChanNo, t.place (.channel c) = s.place (.channel c))
    (hrequests : (t.place .scrubber).requests fl = false)
    (hclaims : (t.place .scrubber).claims fl = false)
    (hops : ∀ k, ∀ op ∈ (t.arb k).waiting ++ (t.arb k).port,
      op ∈ (s.arb k).waiting ++ (s.arb k).port ∨ op.act = .read)
    (horder : t.reqOrder = s.reqOrder ∨ t.reqOrder = s.reqOrder.erase .scrubber ∨
      t.reqOrder = s.reqOrder ++ [.scrubber]) : LineKept s t fl where
  place := hplace
  scrubber := hrequests
  free hf := by
    obtain ⟨hnone, hdelay⟩ := lineFree_iff.1 hf
    refine lineFree_iff.2 ⟨fun p => ?_, fun op hop hfl hact => ?_⟩
    · cases p with
      | channel c => rw [hplace]; exact hnone _
      | scrubber => exact hclaims
    · exact hdelay op ((hops _ op hop).resolve_right hact) hfl hact
  order pre post c hpre hq := by
    rcases horder with h | h | h
    · exact ⟨post, h.trans hq⟩
    · refine ⟨post.erase .scrubber, ?_⟩
      rw [h, hq, List.erase_append_right _ hpre, List.erase_cons_tail (by simp)]
    · exact ⟨post ++ [.scrubber], by rw [h, hq]; simp⟩

theorem mem_request {op x : ModOp} {k : Socket}
    (h : x ∈ ((s.request op).arb k).waiting ++ ((s.request op).arb k).port) :
    x ∈ (s.arb k).waiting ++ (s.arb k).port ∨ x = op := by
  unfold State.request at h
  rw [setArb_arb] at h
  split at h
  · next hk =>
    subst hk
    simp only [List.mem_append, List.mem_singleton] at h ⊢
    tauto
  · exact .inl h

theorem askAndTest_cases (s : State) (o : Owner) (fl : FrameLine) :
    s.askAndTest o fl = s.claimAndRead o fl ∨ s.askAndTest o fl = s.askClaim o fl := by
  unfold State.askAndTest
  split
  · exact .inl rfl
  · exact .inr rfl

/-- R95, R96: the scrubber asks for a claim on another line. -/
theorem LineKept.askAndTest {gl : FrameLine} (hne : gl ≠ fl) :
    LineKept s (s.askAndTest .scrubber gl) fl := by
  have hplace (c : ChanNo) : (s.askAndTest .scrubber gl).place (.channel c) = s.place (.channel c) :=
    askAndTest_place_of_ne (by simp)
  have hgl : (gl == fl) = false := beq_eq_false_iff_ne.2 hne
  rcases askAndTest_cases s .scrubber gl with e | e
  · rw [e] at hplace ⊢
    have hat := claimAndRead_place s .scrubber gl
    exact .of_fields hplace (by rw [hat]; rfl) (by rw [hat]; exact hgl)
      (fun k op hop => (mem_request hop).imp id fun h => by rw [h]; rfl) (.inr (.inl rfl))
  · rw [e] at hplace ⊢
    have hat := askClaim_place s .scrubber gl
    exact .of_fields hplace (by rw [hat]; exact hgl) (by rw [hat]; rfl) (fun _ _ => .inl)
      (.inr (.inr rfl))

theorem LineKept.of_scrub (hs : s.place .scrubber = .empty) (p : Scrubber) :
    LineKept s { s with scrub := p } fl :=
  .of_fields (fun _ => rfl) (by show (s.place _).requests fl = _; rw [hs]; rfl)
    (by show (s.place _).claims fl = _; rw [hs]; rfl) (fun _ _ => .inl) (.inl rfl)

theorem LineKept.chooseScrub (hs : s.place .scrubber = .empty)
    (hu : (s.frame fl.frame).state.inUse = false) : LineKept s s.chooseScrub fl := by
  rcases chooseScrub_cases s with ⟨p, e⟩ | ⟨p, gl, hgl, e⟩
  · rw [e]; exact .of_scrub hs p
  · have hne : gl ≠ fl := by rintro rfl; rw [hu] at hgl; cases hgl
    rw [e]
    exact (LineKept.of_scrub hs p).trans (.askAndTest hne)

/-- R115: the end of a scrub that holds no claim, and what it begins next, leave a line of a frame not in use. -/
theorem LineKept.finishScrub (hs : s.place .scrubber = .empty)
    (hu : (s.frame fl.frame).state.inUse = false) : LineKept s s.finishScrub fl := by
  unfold State.finishScrub
  dsimp only
  split
  · exact (LineKept.of_scrub hs _).trans (.chooseScrub hs hu)
  · exact .of_scrub hs _

theorem LineKept.withdraw : LineKept s ((s.unorder .scrubber).setPlace .scrubber .empty) fl :=
  .of_fields (fun _ => setPlace_place_of_ne (by simp) _) (by rw [setPlace_place_self]; rfl)
    (by rw [setPlace_place_self]; rfl) (fun _ _ => .inl) (.inr (.inl rfl))

/-- R111: a scrub granted whose frame is no longer in use leaves its line to the requests behind it. -/
theorem LineKept.grantEnds (hu : (s.frame fl.frame).state.inUse = false) :
    LineKept s (s.grantClaim .scrubber fl) fl := by
  rw [grantClaim_ends hu]
  exact LineKept.withdraw.trans (.finishScrub (setPlace_place_self _ _ _) hu)

/-- R96, R111: the request behind a scrub that ends is the earliest then. -/
theorem grantEnds_order {pre mid after : List Owner} {c : ChanNo}
    (hu : (s.frame fl.frame).state.inUse = false)
    (hq : s.reqOrder = pre ++ .scrubber :: (mid ++ .channel c :: after))
    (hpre : Owner.scrubber ∉ pre) (hmid : Owner.scrubber ∉ mid) :
    ∃ after', (s.grantClaim .scrubber fl).reqOrder = (pre ++ mid) ++ .channel c :: after' := by
  rw [grantClaim_ends hu]
  refine (LineKept.finishScrub (s := (s.unorder .scrubber).setPlace .scrubber .empty) (fl := fl)
    (setPlace_place_self _ _ _) hu).order (pre ++ mid) after c (by simp [hpre, hmid]) ?_
  show s.reqOrder.erase .scrubber = _
  rw [hq, List.erase_append_right _ hpre, List.erase_cons_head, List.append_assoc]

/-- R96: a line whose requests have all been met or ended has none. -/
theorem LineKept.notRequested (h : LineKept s t fl) {l : List Owner}
    (hl : ∀ p ∈ l, (s.place p).requests fl = false) : ∀ p ∈ l, (t.place p).requests fl = false := by
  intro p hp
  cases p with
  | channel c => rw [h.place]; exact hl _ hp
  | scrubber => exact h.scrubber

end

/-- R111, R115: a scrub granted whose frame is no longer in use moves the position on. -/
theorem grantClaim_movesOn {s : State} {fl : FrameLine} {p : Scrubber}
    (hu : (s.frame fl.frame).state.inUse = false) (h : MovesOn s.scrub p) :
    s.grantClaim .scrubber fl =
      if s.scrub.expiryPending then
        { (s.unorder .scrubber).setPlace .scrubber .empty with
          scrub := { p with expiryPending := false } }.chooseScrub
      else { (s.unorder .scrubber).setPlace .scrubber .empty with scrub := p } := by
  have hpending : p.expiryPending = s.scrub.expiryPending := h.2.1
  have hmoves : ({ ((s.unorder .scrubber).setPlace .scrubber .empty).scrub with stage := .none } :
      Scrubber).advance = p := advance_of_movesOn h
  rw [grantClaim_ends hu]
  unfold State.finishScrub
  dsimp only
  rw [hmoves, hpending]

section
variable {s : State} {fl : FrameLine} {o : Owner} {pre post : List Owner}

theorem testRequests_first (hf : s.lineFree fl = true) (hq : s.reqOrder = pre ++ o :: post)
    (hpre : ∀ p ∈ pre, (s.place p).requests fl = false) (ho : s.place o = .requested fl) :
    s.testRequests fl = post.foldl (fun t o => t.testOne fl o) (s.grantClaim o fl) := by
  rw [State.testRequests, hq, testFold_first hf hpre ho]

/-- R96: a test of a line's requests grants the earliest alone, unless that ends without a claim and another
stands behind it. -/
theorem testRequests_alone (hf : s.lineFree fl = true) (hq : s.reqOrder = pre ++ o :: post)
    (hpre : ∀ p ∈ pre, (s.place p).requests fl = false) (ho : s.place o = .requested fl)
    (h : o ≠ .scrubber ∨ (s.frame fl.frame).state.inUse = true ∨
      ∀ p ∈ post, (s.place p).requests fl = false) :
    s.testRequests fl = s.grantClaim o fl := by
  rw [testRequests_first hf hq hpre ho]
  by_cases hr : o ≠ .scrubber ∨ (s.frame fl.frame).state.inUse = true
  · rw [grantClaim_reads hr, testFold_notFree (claimAndRead_notFree s o fl)]
  · obtain ⟨hc, hu⟩ := not_or.1 hr
    obtain rfl := not_not.1 hc
    have hkept : LineKept s _ fl := .grantEnds (Bool.eq_false_iff.2 hu)
    exact testFold_notRequested (hkept.notRequested ((h.resolve_left hc).resolve_left hu))

/-- R96, R111: after a scrub that ends, the channel next in order is granted, and the test of the line's
requests grants no other. -/
theorem testRequests_afterEnd {mid after : List Owner} {c : ChanNo} (hp : s.powered = true)
    (hf : s.lineFree fl = true) (hq : s.reqOrder = pre ++ .scrubber :: (mid ++ .channel c :: after))
    (hpre : ∀ p ∈ pre, (s.place p).requests fl = false) (ho : s.place .scrubber = .requested fl)
    (hu : (s.frame fl.frame).state.inUse = false)
    (hmid : ∀ p ∈ mid, (s.place p).requests fl = false) (hc : s.place (.channel c) = .requested fl) :
    exec (.claimGrant (.channel c)) (s.grantClaim .scrubber fl) = .next (s.testRequests fl) := by
  have hout {l : List Owner} (hl : ∀ p ∈ l, (s.place p).requests fl = false) : Owner.scrubber ∉ l :=
    fun h => by have := hl _ h; rw [requests_iff.2 ho] at this; cases this
  have hkept : LineKept s (s.grantClaim .scrubber fl) fl := .grantEnds hu
  have hbefore := hkept.notRequested (l := pre ++ mid) fun p hp =>
    (List.mem_append.1 hp).elim (hpre p) (hmid p)
  have hreq := (hkept.place c).trans hc
  have hpow : (s.grantClaim .scrubber fl).powered = true := by rw [grantClaim_frame]; exact hp
  obtain ⟨after', hq'⟩ := grantEnds_order hu hq (hout hpre) (hout hmid)
  rw [exec_claimGrant_first hpow (hkept.free hf) hq' hbefore hreq, testRequests_first hf hq hpre ho,
    testFold_reads (hkept.free hf) (hkept.notRequested hmid) hreq (.inl (by simp))]

end

end Sys2Proof.Machine.ChannelProofs

open Sys2Proof Sys2Proof.Machine Sys2Proof.Machine.Laws Sys2Proof.Machine.ChannelProofs

/-- Settles O33. -/
theorem freeLinesAreGrantedToTheEarliestRequest :
    Obligations.FreeLinesAreGrantedToTheEarliestRequest := by
  intro s fl
  refine ⟨lineFree_iff, fun h => testFold_notFree h _, testRequests_none s fl,
    fun o => exec_claimGrant_notRequested, fun o hp ho => ⟨fun hf => ?_, fun pre post p hq hpre hpo hne => ?_,
      fun pre post hf hq hpre => ?_⟩⟩
  · rw [exec_claimGrant hp ho, hf]; rfl
  · rw [exec_claimGrant hp ho, firstRequest_eq hq hpre hpo]
    exact congrArg _ (if_neg (by simp [hne]))
  have hgrant := exec_claimGrant_first hp hf hq hpre ho
  refine ⟨fun c hc => ?_, fun hc hu => ?_, fun hc hu p hmoves => ⟨fun he => ?_, fun he => ?_⟩, fun h => ?_,
    fun hc hu mid after q hpost hmid hpq hne => ?_⟩
  · subst hc
    exact hgrant
  · subst hc
    rw [hgrant, grantClaim_reads (.inr hu), claimAndRead_scrubber]
  · subst hc
    rw [hgrant, grantClaim_movesOn hu hmoves, he]
    rfl
  · subst hc
    rw [hgrant, grantClaim_movesOn hu hmoves, he]
    rfl
  · rw [hgrant, testRequests_alone hf hq hpre ho h]
  · subst hc
    cases q with
    | channel c => exact ⟨_, hgrant, testRequests_afterEnd hp hf (hpost ▸ hq) hpre ho hu hmid hpq⟩
    | scrubber => exact absurd rfl hne

end

section
/-! The beginning of a line copy (R55, R56, R95, R96). -/

namespace Sys2Proof.Machine.ChannelProofs

open Sys2Proof Sys2Proof.Machine Sys2Proof.Machine.Laws

section
variable {s : State} {c : ChanNo} {m : Migration} {f : FrameNo}

theorem exec_lineCopyBegin (hp : s.powered = true) :
    exec (.lineCopyBegin c) s = .next (if s.mayBeginCopy c then s.beginCopy c else s) := by
  show Host.Outcome.next (s.whenOn _) = _
  rw [State.whenOn, if_pos hp]

/-- R55: the conditions under which a channel begins a line copy. -/
theorem mayBeginCopy_iff : s.mayBeginCopy c = true ↔
    ∃ m f, (s.chan c).state = .running m f ∧ m.cursor < Config.linesPerFrame ∧
      s.place (.channel c) = .empty := by
  unfold State.mayBeginCopy
  cases (s.chan c).state <;> simp

theorem beginCopy_running {l : LineNo} (hc : (s.chan c).state = .running m f) (hl : l.val = m.cursor) :
    s.beginCopy c = s.askAndTest (.channel c) ⟨f, l⟩ := by
  have hline : lineNo m.cursor = l := Fin.ext (by simp [lineNo, ← hl])
  rw [State.beginCopy, hc]
  dsimp only
  rw [hline]

theorem exec_lineCopyBegin_running {l : LineNo} (hp : s.powered = true)
    (hc : (s.chan c).state = .running m f) (hl : l.val = m.cursor) (he : s.place (.channel c) = .empty) :
    exec (.lineCopyBegin c) s = .next (s.askAndTest (.channel c) ⟨f, l⟩) := by
  rw [exec_lineCopyBegin hp, if_pos (mayBeginCopy_iff.2 ⟨m, f, hc, hl ▸ l.isLt, he⟩),
    beginCopy_running hc hl]

end

end Sys2Proof.Machine.ChannelProofs

open Sys2Proof Sys2Proof.Machine Sys2Proof.Machine.Laws Sys2Proof.Machine.ChannelProofs

/-- Settles O34. -/
theorem lineCopiesBeginWithAClaim : Obligations.LineCopiesBeginWithAClaim := by
  refine fun s c hp => ⟨fun h => ?_, fun m f l hc hl he => ⟨fun hf => ?_, fun hf => ?_⟩⟩
  · rw [exec_lineCopyBegin hp]
    refine congrArg _ (if_neg fun hmay => ?_)
    obtain ⟨m, f, hc, hlt, he⟩ := mayBeginCopy_iff.1 hmay
    exact (h m f hc).elim (Nat.not_le.2 hlt) fun hne => hne he
  · rw [exec_lineCopyBegin_running hp hc hl he, askAndTest_free hf, claimAndRead_channel]
  · rw [exec_lineCopyBegin_running hp hc hl he, askAndTest_busy hf]
    rfl

end

section
/-! What an abort of a channel leaves (R63 to R66). -/

namespace Sys2Proof.Machine.ChannelProofs

open Sys2Proof Sys2Proof.Machine Sys2Proof.Machine.Laws Sys2Proof.Machine.MapProofs
  Sys2Proof.Machine.FrameProofs

/-- R63 to R66: what an abort of a channel leaves, if it returns its target by its origin. -/
theorem abortChannel_leaves {s : State} (h : heldPresent s) {c : ChanNo} {m : Migration}
    {source : FrameNo} {cause : LastOutcome} {state' : FrameState}
    (hm : (s.chan c).state.migration = some m) (hl : (s.slice m.slice).loc = .migrating source c)
    (hr : cause ≠ .reset) (ht : cause ≠ .targetRetired)
    (ho : m.origin = .free ∧ state' = .free ∨ m.origin = .spare ∧ state' = .spare)
    (rspQ : List Response) :
    AbortLeaves s { s.abortChannel c cause with rspQ := rspQ } c m source
      { s.frame m.target with state := state' } cause ∧
    (s.abortChannel c cause).flags = s.flags ||| Flag.migAborted.mask ∧
    (s.abortChannel c cause).cmdQ = s.cmdQ ∧ (s.abortChannel c cause).rspQ = s.rspQ ∧
    (s.abortChannel c cause).generation = s.generation + 1 ∧
    (s.abortChannel c cause).frame m.target = { s.frame m.target with state := state' } := by
  rw [abortChannel_eq hm hl hr ht ho]
  obtain ⟨target', htarget⟩ : ∃ r : FrameRec, r = { s.frame m.target with state := state' } := ⟨_, rfl⟩
  rw [← htarget]
  have e := releasePlace_frame { s.abortTables c m source target' cause with
    flags := s.flags ||| Flag.migAborted.mask } (.channel c)
  refine ⟨abortLeaves_release c m source target' cause h _ s.cmdQ rspQ, ?_, ?_, ?_, ?_, ?_⟩
  · rw [e]
  · rw [e]; rfl
  · rw [e]; rfl
  · rw [e]; rfl
  · exact (frame_set (s := s) (by rw [e]; rfl) _).trans (if_pos rfl)

/-! ## CHAIN_BROKEN_ABORT (R66) -/

theorem exec_chainBrokenAbort_none {s : State} (h : s.broken = []) :
    exec .chainBrokenAbort s = .next s := by
  show Host.Outcome.next (s.whenOn _) = _
  rw [h, State.whenOn, ite_self]

theorem exec_chainBrokenAbort_first {s : State} {c : ChanNo} {behind : List ChanNo}
    (hp : s.powered = true) (h : s.broken = c :: behind) :
    exec .chainBrokenAbort s = .next (s.abortChannel c .chainBroken) := by
  show Host.Outcome.next (s.whenOn _) = _
  rw [h, State.whenOn, if_pos hp]

end Sys2Proof.Machine.ChannelProofs
end

section
/-! CANCEL and CHAIN_BROKEN_ABORT: the channels ARMED behind a channel, and what the commands answer (R66, R70). -/

namespace Sys2Proof.Machine.ChannelProofs

open Sys2Proof Sys2Proof.Machine Sys2Proof.Machine.Laws Sys2Proof.Machine.MapProofs

/-! ## The channels ARMED behind a channel (R70) -/

section
variable {s : State} {c d : ChanNo} {cs : List ChanNo}

theorem mem_behindStep : d ∈ s.behindStep cs ↔ d ∈ cs ∨ ∃ e ∈ cs, d ∈ s.waitersOn e := by
  simp [State.behindStep]

theorem behindStep_nodup (s : State) (cs : List ChanNo) : (s.behindStep cs).Nodup :=
  (List.nodup_finRange 4).filter _

/-- No channel waits on one of a list but those of the list. -/
def ClosedBehind (s : State) (cs : List ChanNo) : Prop := ∀ e ∈ cs, ∀ d ∈ s.waitersOn e, d ∈ cs

theorem ClosedBehind.step (h : ClosedBehind s cs) : ClosedBehind s (s.behindStep cs) := by
  have hin {d : ChanNo} (hd : d ∈ s.behindStep cs) : d ∈ cs :=
    (mem_behindStep.1 hd).elim id fun ⟨e, he, hw⟩ => h e he d hw
  exact fun e he d hd => mem_behindStep.2 (.inl (h e (hin he) d hd))

theorem ClosedBehind.steps (h : ClosedBehind s cs) (n : Nat) : ClosedBehind s (s.behindStep^[n] cs) := by
  induction n generalizing cs with
  | zero => exact h
  | succ n ih => exact ih h.step

theorem mem_of_four (hnd : cs.Nodup) (hl : 4 ≤ cs.length) (d : ChanNo) : d ∈ cs := by
  by_contra hd
  have := (List.nodup_cons.2 ⟨hd, hnd⟩).length_le_card
  simp at this
  omega

/-- A list that is not closed gains a channel by a step. -/
theorem closedBehind_or_grows (hnd : cs.Nodup) :
    ClosedBehind s cs ∨ cs.length < (s.behindStep cs).length := by
  by_cases h : ClosedBehind s cs
  · exact .inl h
  · refine .inr ?_
    simp only [ClosedBehind, not_forall] at h
    obtain ⟨e, he, d, hw, hd⟩ := h
    refine (List.subperm_of_subset (List.nodup_cons.2 ⟨hd, hnd⟩) (List.cons_subset.2 ⟨?_, ?_⟩)).length_le
    · exact mem_behindStep.2 (.inr ⟨e, he, hw⟩)
    · exact fun x hx => mem_behindStep.2 (.inl hx)

/-- With four channels a list is closed after as many steps as it lacks channels. -/
theorem closedBehind_of_steps {n : Nat} (hnd : cs.Nodup) (hn : 4 ≤ cs.length + n) :
    ClosedBehind s (s.behindStep^[n] cs) := by
  induction n generalizing cs with
  | zero => exact fun _ _ d _ => mem_of_four hnd hn d
  | succ n ih =>
    rcases closedBehind_or_grows (s := s) hnd with h | h
    · exact h.steps (n + 1)
    · exact ih (behindStep_nodup s cs) (by omega)

theorem subset_behindSteps (n : Nat) (h : d ∈ cs) : d ∈ s.behindStep^[n] cs := by
  induction n generalizing cs with
  | zero => exact h
  | succ n ih => exact ih (mem_behindStep.2 (.inl h))

theorem behind_of_behindSteps (n : Nat) (hcs : ∀ d ∈ cs, d = c ∨ s.Behind c d)
    (hd : d ∈ s.behindStep^[n] cs) : d = c ∨ s.Behind c d := by
  induction n generalizing cs with
  | zero => exact hcs d hd
  | succ n ih =>
    refine ih (fun x hx => ?_) hd
    rcases mem_behindStep.1 hx with hx | ⟨e, he, hw⟩
    · exact hcs x hx
    · rcases hcs e he with rfl | hb
      · exact .inr (.direct x hw)
      · exact .inr (.through e x hb hw)

/-- Three steps from a channel reach what is ARMED behind it, and nothing else. -/
theorem mem_threeSteps : d ∈ s.behindStep^[3] [c] ↔ d = c ∨ s.Behind c d := by
  have hself : c ∈ s.behindStep^[3] [c] := subset_behindSteps 3 (List.mem_singleton.2 rfl)
  have hclosed : ClosedBehind s (s.behindStep^[3] [c]) :=
    closedBehind_of_steps (List.nodup_singleton c) (Nat.le_refl 4)
  refine ⟨behind_of_behindSteps 3 fun x hx => .inl (List.mem_singleton.1 hx), ?_⟩
  rintro (rfl | hb)
  · exact hself
  · induction hb with
    | direct x hw => exact hclosed _ hself x hw
    | through e x _ hw ih => exact hclosed e ih x hw

/-- R70: the number of channels ARMED behind a channel, directly or through one another. -/
theorem armedBehind_eq {behind : List ChanNo} (hnd : behind.Nodup)
    (hmem : ∀ d, d ∈ behind ↔ s.Behind c d ∧ d ≠ c) : s.armedBehind c = behind.length := by
  show (s.behindStep^[3] [c]).countP (fun d => d != c) = _
  rw [List.countP_eq_length_filter]
  refine ((List.perm_ext_iff_of_nodup ((behindStep_nodup s _).filter _) hnd).2 fun d => ?_).length_eq
  rw [List.mem_filter, hmem, bne_iff_ne]
  refine and_congr_left fun hne => ?_
  exact mem_threeSteps.trans (or_iff_right hne)

end

/-! ## CANCEL -/

theorem exec_cancel (s : State) : exec .cancel s = .next (s.takeCommand (· == 0x31) cancelCommand) := rfl

/-- CANCEL of a channel in range: the phase is checked, then that the channel has a migration (R70). -/
theorem cancelCommand_guarded {w : CmdWord} {s : State} {c : ChanNo} (hc : byteOf w.cmd1 2 = c.val) :
    ∃ run, cancelCommand w s = s.guarded [.active] false run ∧
      ((s.chan c).state = .idle → run = s.refuse .wrongState) ∧
      ∀ m, (s.chan c).state.migration = some m →
        run = ⟨.ok, word4 c.val m.slice.val m.target.val
            ((s.abortChannel c .cancelled).frame m.target).state.code, word2 m.cursor m.poisoned,
          word2 (s.abortChannel c .cancelled).generation.toNat (s.armedBehind c),
          s.abortChannel c .cancelled⟩ := by
  unfold cancelCommand
  rw [argChan_of_eq hc]
  refine ⟨_, rfl, fun h => ?_, fun m h => ?_⟩
  · rw [h]; rfl
  · rw [h]

theorem guarded_active {s : State} {run : CmdOut} (hp : s.phase = .active) :
    s.guarded [.active] false run = run := guarded_in (by simp [hp]) (.inl rfl)

theorem guarded_notActive {s : State} {run : CmdOut} (hp : s.phase ≠ .active) :
    s.guarded [.active] false run = s.refuse .wrongPhase := guarded_out (by simp [hp])

end Sys2Proof.Machine.ChannelProofs

open Sys2Proof Sys2Proof.Machine Sys2Proof.Machine.Laws Sys2Proof.Machine.MapProofs
  Sys2Proof.Machine.ChannelProofs

/-- Settles O38. -/
theorem brokenChainsAbortLinkByLink : Obligations.BrokenChainsAbortLinkByLink := by
  refine fun s hp => ⟨exec_chainBrokenAbort_none,
    fun c behind m source state' _ hclaims hb hm hl ho => ?_⟩
  obtain ⟨hleaves, hflags, hcmdQ, hrspQ, -⟩ := abortChannel_leaves hclaims.held
    (cause := .chainBroken) (by rw [hm]; rfl) hl (by simp) (by simp) ho
    (s.abortChannel c .chainBroken).rspQ
  exact ⟨_, exec_chainBrokenAbort_first hp hb, hleaves, hflags, hcmdQ, hrspQ⟩

/-- Settles O9. -/
theorem cancelAbortsTheChannel : Obligations.CancelAbortsTheChannel := by
  intro s w rest ht
  refine ⟨fun h => refused_of_takes (exec_cancel s) ht (by rw [cancelCommand, argChan_out h]),
    fun c hc => ?_⟩
  obtain ⟨run, hrun, hidle, habort⟩ := cancelCommand_guarded (s := { s with cmdQ := rest }) hc
  refine ⟨fun hp => refused_of_takes (exec_cancel s) ht (hrun.trans (guarded_notActive hp)),
    fun hp hi => refused_of_takes (exec_cancel s) ht ((hrun.trans (guarded_active hp)).trans (hidle hi)),
    fun _ hclaims hp m source state' behind hm hl ho hnd hbehind => ?_⟩
  have hcmd := (hrun.trans (guarded_active hp)).trans (habort m hm)
  obtain ⟨hleaves, hflags, hcmdQ, hrspQ, hgen, hframe⟩ := abortChannel_leaves
    (s := { s with cmdQ := rest }) (cause := .cancelled) hclaims.held hm hl (by simp) (by simp) ho
    (s.rspQ ++ [{ tag := cmdTag w, code := cmdCode w, status := .ok
                  rsp1 := word4 c.val m.slice.val m.target.val state'.code
                  rsp2 := word2 m.cursor m.poisoned
                  rsp3 := word2 (s.generation + 1).toNat behind.length }])
  have hcount : State.armedBehind { s with cmdQ := rest } c = behind.length :=
    armedBehind_eq (s := s) hnd hbehind
  rw [hcount, hgen, hframe] at hcmd
  refine ⟨_, exec_of_takes (exec_cancel s) ht hcmd, ?_, hflags, hcmdQ, ?_⟩
  · rw [CmdOut.respond, hrspQ]
    exact hleaves
  · rw [CmdOut.respond, hrspQ]

end

section
/-! The outcome of a line copy's read (R56 to R58, R68, R80). -/

namespace Sys2Proof.Machine.ChannelProofs

open Sys2Proof Sys2Proof.Machine Sys2Proof.Machine.Laws Sys2Proof.Machine.MapProofs

/-! ## Requests for a poison entry (R77) -/

section
variable {s : State} {i : SliceNo} {l : LineNo}

theorem poisonResult_present (h : (i, l) ∈ s.poison) : s.poisonResult i l = .present :=
  if_pos (by simpa using h)

theorem poisonResult_added (h : (i, l) ∉ s.poison) (hn : s.poison.length < 32) :
    s.poisonResult i l = .added := by
  rw [State.poisonResult, if_neg (by simpa using h)]
  exact if_pos hn

theorem poisonResult_full (h : (i, l) ∉ s.poison) (hn : 32 ≤ s.poison.length) :
    s.poisonResult i l = .full := by
  rw [State.poisonResult, if_neg (by simpa using h)]
  exact if_neg (Nat.not_lt.2 hn)

theorem addPoison_added (h : (i, l) ∉ s.poison) (hn : s.poison.length < 32) :
    s.addPoison i l =
      { s with
        poison := s.poison ++ [(i, l)]
        flags := s.flags ||| Flag.poisonAdded.mask } := by
  rw [State.addPoison, poisonResult_added h hn]
  rfl

end

/-! ## The lost line (R58) -/

section
variable {s : State} {c : ChanNo} {m : Migration} {f : FrameNo} {fl : FrameLine}

theorem countAndMark_poison (s : State) (f : FrameNo) (o : ReadOutcome) :
    (s.countAndMark f o).poison = s.poison := by rw [countAndMark_frame]

/-- The marking without its advance of the generation. -/
theorem countAndMark_eq (s : State) (f : FrameNo) (o : ReadOutcome) :
    s.countAndMark f o = { s.takeOutcome f o with generation := s.generation } := by
  have hgen : (s.countAndMark f o).generation = s.generation := by rw [countAndMark_frame]
  rw [State.takeOutcome, bumpIf_eq, ← hgen]

theorem countPoisoned_running {u : State} (hu : u.chans = s.chans)
    (hc : (s.chan c).state = .running m f) :
    u.countPoisoned c m =
      { u with
        chans := s.chans.set c
          { s.chan c with state := .running { m with poisoned := m.poisoned + 1 } f } } := by
  rw [State.countPoisoned, chan_congr hu, hc, State.setChan, hu]
  rfl

theorem copyLost_present (h : (m.slice, fl.line) ∈ s.poison) :
    s.copyLost c m fl = (s.takeOutcome fl.frame .uncorrectable).writeTarget c m fl.line zeroLine := by
  have hr := poisonResult_present (s := s.countAndMark fl.frame .uncorrectable)
    ((countAndMark_poison s _ _).symm ▸ h)
  unfold State.copyLost State.addPoison
  dsimp only
  rw [hr]
  rfl

theorem copyLost_added (h : (m.slice, fl.line) ∉ s.poison) (hn : s.poison.length < 32)
    (hc : (s.chan c).state = .running m f) :
    s.copyLost c m fl =
      State.writeTarget
        { s.takeOutcome fl.frame .uncorrectable with
          poison := s.poison ++ [(m.slice, fl.line)]
          flags := (s.takeOutcome fl.frame .uncorrectable).flags ||| Flag.poisonAdded.mask
          chans := s.chans.set c
            { s.chan c with state := .running { m with poisoned := m.poisoned + 1 } f } }
        c m fl.line zeroLine := by
  have hp := countAndMark_poison s fl.frame .uncorrectable
  have hr := poisonResult_added (s := s.countAndMark fl.frame .uncorrectable) (hp.symm ▸ h)
    (hp.symm ▸ hn)
  have hpt : (s.takeOutcome fl.frame .uncorrectable).poison = s.poison := by rw [takeOutcome_frame]
  have hchans : ((s.takeOutcome fl.frame .uncorrectable).addPoison m.slice fl.line).chans = s.chans := by
    rw [addPoison_frame, takeOutcome_frame]
  unfold State.copyLost
  dsimp only
  rw [hr]
  dsimp only
  rw [addPoison_bumpIf, ← State.takeOutcome, countPoisoned_running (s := s) hchans hc,
    addPoison_added (hpt.symm ▸ h) (hpt.symm ▸ hn), hpt]

/-- R58, R68: with the list full the copy's migration aborts in the event of the marking. -/
theorem copyLost_full (h : (m.slice, fl.line) ∉ s.poison) (hn : 32 ≤ s.poison.length) :
    s.copyLost c m fl =
      ((s.countAndMark fl.frame .uncorrectable).raise .poisonFull).abortChannel c .poisonFull := by
  have hp := countAndMark_poison s fl.frame .uncorrectable
  have hr := poisonResult_full (s := s.countAndMark fl.frame .uncorrectable) (hp.symm ▸ h)
    (hp.symm ▸ hn)
  unfold State.copyLost State.addPoison
  dsimp only
  rw [hr]

end

/-! ## LINE_COPY_READ_OUTCOME -/

section
variable {s : State} {k : Socket} {op : ModOp} {rest : List ModOp} {c : ChanNo} {m : Migration}
  {f : FrameNo}

/-- R56: the outcome of a RUNNING channel's read is taken by its copy. -/
theorem exec_lineCopyReadOutcome (hp : s.powered = true) (hq : (s.arb k).port = op :: rest)
    (hr : op.req = .channel c) (ha : op.act = .read) (hl : op.standing = .live)
    (hc : (s.chan c).state = .running m f) (o : ReadOutcome) :
    exec (.lineCopyReadOutcome k o) s = .next (s.copyRead k op c m o) := by
  show Host.Outcome.next (s.whenOn _) = _
  rw [State.whenOn, if_pos hp, nextOp_of_port hq]
  dsimp only
  rw [hr, ha, hl]
  dsimp only
  rw [hc]

theorem copyRead_good (hq : (s.arb k).port = op :: rest) {o : ReadOutcome} (ho : o ≠ .uncorrectable) :
    s.copyRead k op c m o =
      ((s.landed k op rest).takeOutcome op.fl.frame o).writeTarget c m op.fl.line
        (s.contents op.fl) := by
  unfold State.copyRead
  rw [complete_eq_landed hq]
  cases o with
  | uncorrectable => exact absurd rfl ho
  | clean => rfl
  | corrected => rfl

theorem copyRead_lost (hq : (s.arb k).port = op :: rest) :
    s.copyRead k op c m .uncorrectable = (s.landed k op rest).copyLost c m op.fl := by
  rw [State.copyRead, complete_eq_landed hq]

end

end Sys2Proof.Machine.ChannelProofs

open Sys2Proof Sys2Proof.Machine Sys2Proof.Machine.Laws Sys2Proof.Machine.MapProofs
  Sys2Proof.Machine.ChannelProofs

/-- Settles O35. -/
theorem sourceOutcomesDecideTheTargetWrite : Obligations.SourceOutcomesDecideTheTargetWrite := by
  intro s k op rest c m f hp hq hr ha hl hc
  have hexec := exec_lineCopyReadOutcome hp hq hr ha hl hc
  refine ⟨fun o ho => ?_, fun h => ?_, fun h hn => ?_, fun _ hclaims h hn u state' hu hloc ho => ?_⟩
  · rw [hexec, copyRead_good hq ho]
    rfl
  · rw [hexec, copyRead_lost hq, copyLost_present (s := s.landed k op rest) h]
    rfl
  · rw [hexec, copyRead_lost hq, copyLost_added (s := s.landed k op rest) h hn hc]
    rfl
  · have hmark : (s.landed k op rest).countAndMark op.fl.frame .uncorrectable = u :=
      (countAndMark_eq _ _ _).trans hu.symm
    have hfields := (hmark.symm.trans (countAndMark_frame _ _ _))
    have hm : ((u.raise .poisonFull).chan c).state.migration = some m := by
      rw [hfields]
      show (s.chan c).state.migration = _
      rw [hc]; rfl
    have hslice : ((u.raise .poisonFull).slice m.slice).loc = .migrating f c := by
      rw [hfields]
      exact hloc
    have hheld : heldPresent (u.raise .poisonFull) := by
      rw [hfields]
      exact hclaims.held
    obtain ⟨hleaves, hflags, hcmdQ, hrspQ, -⟩ := abortChannel_leaves hheld (cause := .poisonFull) hm
      hslice (by simp) (by simp) ho ((u.raise .poisonFull).abortChannel c .poisonFull).rspQ
    rw [hexec, copyRead_lost hq, copyLost_full (s := s.landed k op rest) h hn, hmark]
    exact ⟨_, rfl, hleaves, hflags, hcmdQ.trans (by rw [hfields]; rfl),
      hrspQ.trans (by rw [hfields]; rfl)⟩

end

section
/-! The completion of a line copy: the next line's copy, or the commit (R55, R59 to R61, R98). -/

namespace Sys2Proof.Machine.ChannelProofs

open Sys2Proof Sys2Proof.Machine Sys2Proof.Machine.Laws Sys2Proof.Machine.MapProofs
  Sys2Proof.Machine.FrameProofs Sys2Proof.Machine.RangeProofs

/-! ## A completed write -/

section
variable {s t : State} {k : Socket} {op : ModOp} {rest : List ModOp} {d : Line}

theorem contents_congr (h : t.modules = s.modules) (fl : FrameLine) : t.contents fl = s.contents fl := by
  rw [State.contents, State.contents, h]

/-- R99: a completed write of a line leaves that line, and every other line as it was. -/
theorem landed_contents (ha : op.act = .writeLine d) (fl : FrameLine) :
    (s.landed k op rest).contents fl =
      if moduleKey fl = moduleKey op.fl then d else s.contents fl := by
  have hmods : (s.landed k op rest).modules = storeLine s.modules (moduleKey op.fl) d := by
    rw [State.landed, ha]
  rw [State.contents, hmods, readLine_storeLine]
  split
  · rfl
  · rfl

theorem landed_sameMap (hq : (s.arb k).port = op :: rest) : SameMap s (s.landed k op rest) :=
  complete_eq_landed hq ▸ sameMap_complete s k op

/-- R59: the completion of a RUNNING channel's write is taken by its copy. -/
theorem exec_lineCopyComplete {c : ChanNo} {m : Migration} {f : FrameNo} (hp : s.powered = true)
    (hq : (s.arb k).port = op :: rest) (hr : op.req = .channel c) (ha : op.act = .writeLine d)
    (hl : op.standing = .live) (hc : (s.chan c).state = .running m f) :
    exec (.lineCopyComplete k) s = .next (s.copyDone k op c m f) := by
  show Host.Outcome.next (s.whenOn _) = _
  rw [State.whenOn, if_pos hp, nextOp_of_port hq]
  dsimp only
  rw [hr, ha, hl]
  dsimp only [OpAct.isWrite]
  rw [hc]

end

/-! ## The next line (R59) -/

section
variable {s : State} {c : ChanNo} {m : Migration} {f : FrameNo}

/-- R59: short of the last line the cursor moves, the claim is given up and the next copy begins. -/
theorem copyDone_moves {k : Socket} {op : ModOp} {rest : List ModOp} {l : LineNo}
    (hq : (s.arb k).port = op :: rest) (hl : l.val = m.cursor + 1) :
    s.copyDone k op c m f =
      (({ s.landed k op rest with
          chans := s.chans.set c
            { s.chan c with state := .running { m with cursor := l.val } f } } : State).releasePlace
        (.channel c)).beginCopy c := by
  rw [State.copyDone, complete_eq_landed hq]
  dsimp only
  rw [← hl, if_pos (show l.val < Config.linesPerFrame from l.isLt)]
  rfl

theorem releaseAndBegin_frame (u : State) (c : ChanNo) :
    (u.releasePlace (.channel c)).beginCopy c =
      { u with
        ports := ((u.releasePlace (.channel c)).beginCopy c).ports
        places := ((u.releasePlace (.channel c)).beginCopy c).places
        reqOrder := ((u.releasePlace (.channel c)).beginCopy c).reqOrder
        arbs := ((u.releasePlace (.channel c)).beginCopy c).arbs
        scrub := ((u.releasePlace (.channel c)).beginCopy c).scrub } := by
  rw [beginCopy_frame, releasePlace_frame]

/-- R55, R95: the place of a channel that has begun a copy. -/
theorem beginCopy_place {l : LineNo} (hc : (s.chan c).state = .running m f) (hl : l.val = m.cursor) :
    (s.beginCopy c).place (.channel c) = .requested ⟨f, l⟩ ∨
      (s.beginCopy c).place (.channel c) = .claimed ⟨f, l⟩ [] := by
  rw [beginCopy_running hc hl]
  rcases askAndTest_cases s (.channel c) ⟨f, l⟩ with e | e
  · rw [e]; exact .inr (claimAndRead_place s _ _)
  · rw [e]; exact .inl (askClaim_place s _ _)

theorem beginCopy_port (s : State) (c : ChanNo) (i : Initiator) :
    (s.beginCopy c).port i = s.port i := by rw [beginCopy_frame]; rfl

theorem releasePlace_chan (s : State) (o : Owner) (c : ChanNo) :
    (s.releasePlace o).chan c = s.chan c := by rw [releasePlace_frame]; rfl

end

end Sys2Proof.Machine.ChannelProofs

open Sys2Proof Sys2Proof.Machine Sys2Proof.Machine.Laws Sys2Proof.Machine.MapProofs
  Sys2Proof.Machine.FrameProofs Sys2Proof.Machine.ChannelProofs

/-- Settles O36. -/
theorem copiedLinesMoveTheCursor : Obligations.CopiedLinesMoveTheCursor := by
  intro s u k op rest c m f d l hp hq hr ha hlive hc hl hu
  have hchan : ((u.releasePlace (.channel c)).chan c).state =
      .running { m with cursor := l.val } f := by
    rw [releasePlace_chan, chan_set (s := s) (by rw [hu]) c, if_pos rfl]
  have hexec : exec (.lineCopyComplete k) s = .next ((u.releasePlace (.channel c)).beginCopy c) := by
    rw [exec_lineCopyComplete hp hq hr ha hlive hc, copyDone_moves hq hl, ← hu]
  have hpow : (u.releasePlace (.channel c)).powered = true := by
    rw [releasePlace_frame, hu]
    exact hp
  have hbegin := exec_lineCopyBegin_running hpow hchan rfl (releasePlace_channel_empty u c)
  have hmods : ((u.releasePlace (.channel c)).beginCopy c).modules = (s.landed k op rest).modules := by
    rw [releaseAndBegin_frame, hu]
  have hcontents (fl : FrameLine) := (contents_congr hmods fl).trans (landed_contents ha fl)
  refine ⟨_, hexec, rfl, hbegin.trans (congrArg _ (beginCopy_running hchan rfl).symm),
    releaseAndBegin_frame u c, (hcontents op.fl).trans (if_pos rfl),
    fun fl hfl => (hcontents fl).trans (if_neg hfl), beginCopy_place hchan rfl, fun hclaims => ?_⟩
  have hports := releasePlace_ports (s := u) (o := .channel c) (by rw [hu]; exact (hclaims.held · _))
  refine ⟨fun i => ?_, fun i hi => ?_⟩
  · rw [beginCopy_port]
    exact (hports i).1
  · rw [beginCopy_port]
    rw [hu] at hports ⊢
    exact (hports i).2 hi

end

section
/-! The commit of a migration (R32, R38, R54, R60, R61). -/

namespace Sys2Proof.Machine.ChannelProofs

open Sys2Proof Sys2Proof.Machine Sys2Proof.Machine.Laws Sys2Proof.Machine.MapProofs
  Sys2Proof.Machine.FrameProofs

theorem retireQWithout_congr {s t : State} (hq : t.retireQ = s.retireQ)
    (hb : ∀ g, t.suspectBound g ↔ s.suspectBound g) (f : FrameNo) :
    t.retireQWithout f = s.retireQWithout f := by
  simp only [State.retireQWithout, hq, hb]

section
variable {s : State} {c : ChanNo} {m : Migration} {f : FrameNo}

/-- R60: the last line's completion commits, and the claim is given up against the tables so left. -/
theorem copyDone_commits {k : Socket} {op : ModOp} {rest : List ModOp}
    (hq : (s.arb k).port = op :: rest) (hn : m.cursor + 1 = 16384) :
    s.copyDone k op c m f = ((s.landed k op rest).commit c m f).releasePlace (.channel c) := by
  rw [State.copyDone, complete_eq_landed hq]
  dsimp only
  rw [hn]
  exact if_neg (Nat.lt_irrefl _)

theorem commit_slices (s : State) (c : ChanNo) (m : Migration) (f : FrameNo) :
    (s.commit c m f).slices = s.slices.set m.slice { s.slice m.slice with loc := .mapped m.target } := by
  rw [commit_eq, moveSlice, releaseFrame_frame]
  rfl

/-- The target of a migration is not the frame its slice lies on. -/
theorem target_ne_source (h : MapLaws s) (hc : (s.chan c).state = .running m f) : m.target ≠ f := by
  have hm : (s.chan c).state.migration = some m := by rw [hc]; rfl
  have hbound := (h.sliceFrame m.slice f).1 (h.chain.1 c m f hc).1
  rintro rfl
  rw [target_of h hm] at hbound
  cases hbound

/-- R38, R60: what a commit leaves of the retire queue and the flags. -/
theorem commit_release (h : MapLaws s) (hc : (s.chan c).state = .running m f) :
    (s.commit c m f).retireQ = (if (s.frame f).suspect.isSome then s.retireQWithout f else s.retireQ) ∧
    (s.commit c m f).flags =
      (if (s.frame f).suspect.isSome then s.flags ||| Flag.frameRetired.mask else s.flags) |||
        Flag.migDone.mask := by
  have hm : (s.chan c).state.migration = some m := by rw [hc]; rfl
  have htarget := target_of h hm
  have hclean : (s.frame m.target).suspect = none :=
    notSuspect h.suspect (by simp [htarget, FrameState.isBound]) (by simp [htarget])
  obtain ⟨u, hu⟩ : ∃ u, u = (s.setLoc m.slice (.mapped m.target)).setFrameState m.target
    (.bound m.slice) := ⟨_, rfl⟩
  have hrec (g : FrameNo) : u.frame g =
      if m.target = g then { s.frame m.target with state := .bound m.slice } else s.frame g := by
    rw [hu]; exact frame_set rfl g
  have hsuspect (g : FrameNo) : u.suspectBound g ↔ s.suspectBound g := by
    unfold State.suspectBound
    rw [hrec]
    split
    · next e => subst e; simp [hclean]
    · rfl
  have hf : u.frame f = s.frame f := (hrec f).trans (if_neg (target_ne_source h hc))
  have hq : u.retireQWithout f = s.retireQWithout f :=
    retireQWithout_congr (by rw [hu]; rfl) hsuspect f
  have hretireQ : u.retireQ = s.retireQ := by rw [hu]; rfl
  have hflags : u.flags = s.flags := by rw [hu]; rfl
  rw [commit_eq, moveSlice, ← hu, releaseFrame_eq, hf, hq, hretireQ, hflags]
  exact ⟨rfl, rfl⟩

/-- R54, R61: a channel that waited on the one that commits starts from its slice's source. -/
theorem commit_chan_started (h : MapLaws s) (hc : (s.chan c).state = .running m f) {d : ChanNo}
    {md : Migration} {source : FrameNo} (hd : (s.chan d).state = .armed md) (ha : md.after = some c)
    (hb : d ∉ s.broken) (hsrc : (s.slice md.slice).loc.source = some source) :
    (s.commit c m f).chan d = { s.chan d with state := .running md source } := by
  have hcd : c ≠ d := by rintro rfl; rw [hc] at hd; cases hd
  have hapart : m.slice ≠ md.slice :=
    (migrations_apart h (c := c) (d := d) (by rw [hc]; rfl) (by rw [hd]; rfl) hcd).1
  rw [commit_chan, committedChan, if_neg hcd, if_pos (mem_waitersOn.2 ⟨md, hd, ha, hb⟩), startedChan, hd]
  dsimp only
  rw [setLoc_slice_eq, if_neg hapart, hsrc]

theorem commit_chan_other {d : ChanNo} (hcd : d ≠ c)
    (hd : ∀ md : Migration, (s.chan d).state = .armed md → md.after ≠ some c ∨ d ∈ s.broken) :
    (s.commit c m f).chan d = s.chan d := by
  rw [commit_chan, committedChan, if_neg (Ne.symm hcd), if_neg]
  intro hw
  obtain ⟨md, hmd, ha, hb⟩ := mem_waitersOn.1 hw
  exact (hd md hmd).elim (fun hne => hne ha) hb

/-! ## The commit and the release of its claim -/

/-- The fields that the event of a commit writes. -/
theorem commitAndRelease_frame (s : State) (c : ChanNo) (m : Migration) (f : FrameNo) :
    (s.commit c m f).releasePlace (.channel c) =
      { s with
        slices := s.slices.set m.slice { s.slice m.slice with loc := .mapped m.target }
        generation := s.generation + 1
        frames := ((s.commit c m f).releasePlace (.channel c)).frames
        retireQ := ((s.commit c m f).releasePlace (.channel c)).retireQ
        flags := ((s.commit c m f).releasePlace (.channel c)).flags
        chans := ((s.commit c m f).releasePlace (.channel c)).chans
        modules := ((s.commit c m f).releasePlace (.channel c)).modules
        ports := ((s.commit c m f).releasePlace (.channel c)).ports
        places := ((s.commit c m f).releasePlace (.channel c)).places
        reqOrder := ((s.commit c m f).releasePlace (.channel c)).reqOrder
        arbs := ((s.commit c m f).releasePlace (.channel c)).arbs
        scrub := ((s.commit c m f).releasePlace (.channel c)).scrub } := by
  rw [releasePlace_frame, commit_fields, commit_slices]

/-- The tables against which a commit's claim is given up are those its event leaves. -/
theorem commit_eq_released (s : State) (c : ChanNo) (m : Migration) (f : FrameNo) :
    s.commit c m f =
      { s with
        slices := ((s.commit c m f).releasePlace (.channel c)).slices
        generation := ((s.commit c m f).releasePlace (.channel c)).generation
        frames := ((s.commit c m f).releasePlace (.channel c)).frames
        retireQ := ((s.commit c m f).releasePlace (.channel c)).retireQ
        flags := ((s.commit c m f).releasePlace (.channel c)).flags
        chans := ((s.commit c m f).releasePlace (.channel c)).chans } := by
  have hgen : (s.commit c m f).generation = s.generation + 1 := by rw [commit_eq]
  rw [releasePlace_frame]
  dsimp only
  rw [hgen]
  exact commit_fields s c m f

end

end Sys2Proof.Machine.ChannelProofs

open Sys2Proof Sys2Proof.Machine Sys2Proof.Machine.Laws Sys2Proof.Machine.MapProofs
  Sys2Proof.Machine.FrameProofs Sys2Proof.Machine.ChannelProofs

/-- Settles O37. -/
theorem theLastLineCommitsTheMigration : Obligations.TheLastLineCommitsTheMigration := by
  intro s k op rest c m f d hlaws hclaims hp hq hr ha hlive hc hn
  obtain ⟨w, hw⟩ : ∃ w, w = s.landed k op rest := ⟨_, rfl⟩
  have hwlaws : MapLaws w := hw ▸ (landed_sameMap hq).laws hlaws
  have hwc : (w.chan c).state = .running m f := by rw [hw]; exact hc
  have hne := target_ne_source hwlaws hwc
  obtain ⟨hretireQ, hflags⟩ := commit_release hwlaws hwc
  have hexec : exec (.lineCopyComplete k) s = .next ((w.commit c m f).releasePlace (.channel c)) := by
    rw [exec_lineCopyComplete hp hq hr ha hlive hc, copyDone_commits hq hn, hw]
  have hframe := commitAndRelease_frame w c m f
  have hreleased := congrArg (State.releasePlace · (.channel c)) (commit_eq_released w c m f)
  have e := releasePlace_frame (w.commit c m f) (.channel c)
  have hports := releasePlace_ports (s := w.commit c m f) (o := .channel c) (by
    rw [commit_fields, hw]; exact (hclaims.held · _))
  have hempty := releasePlace_channel_empty (w.commit c m f) c
  have hchan (x : ChanNo) := releasePlace_chan (w.commit c m f) (.channel c) x
  obtain ⟨t, ht⟩ : ∃ t, t = (w.commit c m f).releasePlace (.channel c) := ⟨_, rfl⟩
  rw [← ht] at hexec hframe hreleased e hports hempty hchan
  have hrec (g : FrameNo) : t.frame g = _ :=
    (congrArg (State.frame · g) e).trans (commit_frameRec w c m f hne g)
  have htq : t.retireQ = _ := (congrArg State.retireQ e).trans hretireQ
  have htf : t.flags = _ := (congrArg State.flags e).trans hflags
  have hmods : t.modules = (s.landed k op rest).modules := by rw [e, commit_fields, hw]
  have hcontents (fl : FrameLine) := (contents_congr hmods fl).trans (landed_contents ha fl)
  subst hw
  refine ⟨t, hexec, hframe, hreleased, ?_, fun hs => ?_, fun hs => ?_, fun g hgf hgt => ?_, ?_,
    fun x md hx hax hbx src hsrc => ?_, fun x hx hwait => ?_, hempty, fun i => (hports i).1,
    (hcontents op.fl).trans (if_pos rfl), fun fl hfl => (hcontents fl).trans (if_neg hfl)⟩
  · rw [hrec, if_neg (Ne.symm hne), if_pos rfl]; rfl
  · have hs' : ((s.landed k op rest).frame f).suspect = none := hs
    rw [hrec, htq, htf, if_pos rfl, hs']
    exact ⟨rfl, rfl, rfl⟩
  · obtain ⟨cause, hs'⟩ : ∃ x, ((s.landed k op rest).frame f).suspect = some x :=
      Option.ne_none_iff_exists'.1 hs
    rw [hrec, htq, htf, if_pos rfl, hs']
    exact ⟨rfl, rfl, rfl⟩
  · rw [hrec, if_neg (Ne.symm hgf), if_neg (Ne.symm hgt)]; rfl
  · rw [hchan, commit_chan, committedChan, if_pos rfl]
  · exact (hchan x).trans (commit_chan_started hwlaws hwc hx hax hbx hsrc)
  · exact (hchan x).trans (commit_chan_other hx hwait)

end

section
/-! MIGRATE: its checks in order and the migration it sets up (R50 to R52). -/

namespace Sys2Proof.Machine.ChannelProofs

open Sys2Proof Sys2Proof.Machine Sys2Proof.Machine.Laws Sys2Proof.Machine.MapProofs
  Sys2Proof.Machine.FrameProofs

/-! ## Arguments (R179) -/

theorem argFrameOrSpare_of {n : Nat} {target : Option FrameNo}
    (h : n = (target.map Fin.val).getD 0xFE) : argFrameOrSpare n = some target := by
  cases target with
  | none => exact if_pos h
  | some f =>
    have hn : n = f.val := h
    rw [argFrameOrSpare, if_neg (by omega), argFrame_of_eq hn]
    rfl

theorem argFrameOrSpare_out {n : Nat} (h : ¬(n ≤ 63 ∨ n = 0xFE)) : argFrameOrSpare n = none := by
  obtain ⟨hlt, hne⟩ := not_or.1 h
  rw [argFrameOrSpare, if_neg hne, argFrame_out (Nat.not_le.1 hlt)]
  rfl

theorem argChanOrAny_of {n : Nat} {chan : Option ChanNo} (h : n = (chan.map Fin.val).getD 0xFF) :
    argChanOrAny n = some chan := by
  cases chan with
  | none => exact if_pos h
  | some c =>
    have hn : n = c.val := h
    rw [argChanOrAny, if_neg (by omega), argChan_of_eq hn]
    rfl

theorem argChanOrAny_out {n : Nat} (h : ¬(n ≤ 3 ∨ n = 0xFF)) : argChanOrAny n = none := by
  obtain ⟨hlt, hne⟩ := not_or.1 h
  rw [argChanOrAny, if_neg hne, argChan_out (Nat.not_le.1 hlt)]
  rfl

theorem argStart_of {n : Nat} {after : Option ChanNo}
    (h : n = (after.map fun j => 0x80 + j.val).getD 0) : argStart n = some after := by
  cases after with
  | none => exact if_pos h
  | some j =>
    have hn : n = 0x80 + j.val := h
    have hj : n - 0x80 = j.val := by omega
    rw [argStart, if_neg (by omega), if_pos (by omega), argChan_of_eq hj]
    rfl

theorem argStart_out {n : Nat} (h : ¬(n = 0 ∨ 0x80 ≤ n ∧ n ≤ 0x83)) : argStart n = none := by
  unfold argStart
  rw [if_neg (by omega)]
  split
  · rw [argChan_out (by omega)]; rfl
  · rfl

theorem migrateCommand_badArg {w : CmdWord} {s : State}
    (h : ¬(byteOf w.cmd1 0 ≤ 47 ∧ (byteOf w.cmd1 1 ≤ 63 ∨ byteOf w.cmd1 1 = 0xFE) ∧
      (byteOf w.cmd1 2 ≤ 3 ∨ byteOf w.cmd1 2 = 0xFF) ∧
      (byteOf w.cmd1 3 = 0 ∨ 0x80 ≤ byteOf w.cmd1 3 ∧ byteOf w.cmd1 3 ≤ 0x83))) :
    migrateCommand w s = s.refuse .badArg := by
  unfold migrateCommand
  split
  · next i target chan after hi ht hc ha =>
    refine absurd ⟨?_, ?_, ?_, ?_⟩ h
    · by_contra hn; rw [argSlice_out (Nat.not_le.1 hn)] at hi; cases hi
    · by_contra hn; rw [argFrameOrSpare_out hn] at ht; cases ht
    · by_contra hn; rw [argChanOrAny_out hn] at hc; cases hc
    · by_contra hn; rw [argStart_out hn] at ha; cases ha
  · rfl

/-! ## Checks 3 to 6 of R50 -/

section
variable {s : State} {i : SliceNo} {target : Option FrameNo} {chan after : Option ChanNo}
  {source f : FrameNo} {c : ChanNo}

theorem migrateCommand_guarded {w : CmdWord} (hi : byteOf w.cmd1 0 = i.val)
    (ht : byteOf w.cmd1 1 = (target.map Fin.val).getD 0xFE)
    (hc : byteOf w.cmd1 2 = (chan.map Fin.val).getD 0xFF)
    (ha : byteOf w.cmd1 3 = (after.map fun j => 0x80 + j.val).getD 0) :
    migrateCommand w s = s.guarded [.active] false (s.migrate i target chan after) := by
  rw [migrateCommand, argSlice_of_eq hi, argFrameOrSpare_of ht, argChanOrAny_of hc, argStart_of ha]

theorem chooseChannel_busy (h : (s.chan c).state ≠ .idle) :
    s.chooseChannel (some c) = .error .busy := if_neg h

theorem chooseChannel_none (h : ∀ c, (s.chan c).state ≠ .idle) :
    s.chooseChannel none = .error .noChannel := by
  rw [State.chooseChannel, idleChan_none.2 h]

theorem chooseChannel_ok (hi : (s.chan c).state = .idle)
    (h : chan = some c ∨ chan = none ∧ ∀ d : ChanNo, d < c → (s.chan d).state ≠ .idle) :
    s.chooseChannel chan = .ok c := by
  rcases h with rfl | ⟨rfl, hlow⟩
  · exact if_pos hi
  · rw [State.chooseChannel, idleChan_some.2 ⟨hi, hlow⟩]

theorem chooseTarget_wrongState (h1 : (s.frame f).state ≠ .free) (h2 : (s.frame f).state ≠ .spare) :
    s.chooseTarget (some f) = .error .wrongState := if_neg (not_or.2 ⟨h1, h2⟩)

theorem chooseTarget_noFrame (h : s.spareQ = []) : s.chooseTarget none = .error .noFrame := by
  rw [State.chooseTarget, h]
  rfl

theorem chooseTarget_ok (h : target = some f ∨ target = none ∧ s.spareQ.head? = some f)
    (hf : (s.frame f).state = .free ∨ (s.frame f).state = .spare) :
    s.chooseTarget target = .ok f := by
  rcases h with rfl | ⟨rfl, hhead⟩
  · exact if_pos hf
  · rw [State.chooseTarget, hhead]

theorem startRefused_iff : s.startRefused c after = true ↔
    ∃ j, after = some j ∧ ((s.chan j).state = .idle ∨ j = c) := by
  cases after <;> simp [State.startRefused]

theorem migrate_busy {g : FrameNo} {d : ChanNo} (h : (s.slice i).loc = .migrating g d) :
    s.migrate i target chan after = s.refuse .busy := by
  rw [State.migrate, h]

theorem migrate_unmapped (h : (s.slice i).loc = .unmapped) :
    s.migrate i target chan after = s.refuse .wrongState := by
  rw [State.migrate, h]

theorem migrate_channelRefused (h : (s.slice i).loc = .mapped source) {st : Status}
    (hc : s.chooseChannel chan = .error st) : s.migrate i target chan after = s.refuse st := by
  rw [State.migrate, h]
  dsimp only
  rw [hc]

theorem migrate_targetRefused (h : (s.slice i).loc = .mapped source) {st : Status}
    (hc : s.chooseChannel chan = .ok c) (ht : s.chooseTarget target = .error st) :
    s.migrate i target chan after = s.refuse st := by
  rw [State.migrate, h]
  dsimp only
  rw [hc]
  dsimp only
  rw [ht]

/-- R50, R52: with channel and target chosen, the start condition is checked last. -/
theorem migrate_chosen (h : (s.slice i).loc = .mapped source) (hc : s.chooseChannel chan = .ok c)
    (ht : s.chooseTarget target = .ok f) :
    s.migrate i target chan after =
      if s.startRefused c after then s.refuse .wrongState
      else (s.setUpMigration i source f c after .command).done
        (word4 c.val f.val (s.originOf f).code
          ((s.setUpMigration i source f c after .command).chan c).state.code) 0 := by
  rw [State.migrate, h]
  dsimp only
  rw [hc]
  dsimp only
  rw [ht]

/-! ## What MIGRATE sets up (R52) -/

/-- R51, R52: a migration set up on a FREE frame or on a spare. -/
theorem setUpMigration_origin {q : List FrameNo} {o : Origin} (b : InitiatedBy)
    (hf : (s.frame f).state = .free ∧ o = .free ∧ q = s.spareQ ∨
      (s.frame f).state = .spare ∧ o = .spare ∧ q = s.spareQ.erase f) :
    s.originOf f = o ∧
    s.setUpMigration i source f c after b =
      { s with
        slices := s.slices.set i { s.slice i with loc := .migrating source c }
        frames := s.frames.set f { s.frame f with state := .target }
        spareQ := q
        flags := s.flags ||| (if o = .spare then s.removalFlags q else 0)
        chans := s.chans.set c
          { s.chan c with state := newState (newMigration i f o after b) source }
        generation := s.generation + 1 } := by
  rcases hf with ⟨hf, rfl, rfl⟩ | ⟨hf, rfl, rfl⟩
  · have horigin : s.originOf f = .free := if_neg (by simp [hf])
    refine ⟨horigin, ?_⟩
    unfold State.setUpMigration State.takeTarget
    rw [horigin, if_neg (by simp [hf])]
    have hflags : s.flags ||| (if Origin.free = .spare then s.removalFlags s.spareQ else 0) = s.flags := by
      simp
    rw [hflags]
    rfl
  · have horigin : s.originOf f = .spare := if_pos hf
    refine ⟨horigin, ?_⟩
    unfold State.setUpMigration State.takeTarget
    rw [horigin, if_pos hf, removeSpare_eq]
    rfl

theorem newState_of {m : Migration} {st : ChanState}
    (h : m.after = none ∧ st = .running m source ∨ m.after ≠ none ∧ st = .armed m) :
    newState m source = st := by
  rcases h with ⟨ha, rfl⟩ | ⟨ha, rfl⟩
  · exact if_neg (by simp [ha])
  · exact if_pos (Option.isSome_iff_ne_none.2 ha)

/-- R52: what a MIGRATE that passes its checks leaves and reports. -/
theorem migrate_setsUp {q : List FrameNo} {o : Origin} {st : ChanState}
    (h : (s.slice i).loc = .mapped source) (hc : s.chooseChannel chan = .ok c)
    (ht : s.chooseTarget target = .ok f)
    (hf : (s.frame f).state = .free ∧ o = .free ∧ q = s.spareQ ∨
      (s.frame f).state = .spare ∧ o = .spare ∧ q = s.spareQ.erase f)
    (ha : ∀ j, after = some j → (s.chan j).state ≠ .idle ∧ j ≠ c)
    (hst : newState (newMigration i f o after .command) source = st) :
    s.migrate i target chan after =
      State.done
        { s with
          slices := s.slices.set i { s.slice i with loc := .migrating source c }
          frames := s.frames.set f { s.frame f with state := .target }
          spareQ := q
          flags := s.flags ||| (if o = .spare then s.removalFlags q else 0)
          chans := s.chans.set c { s.chan c with state := st }
          generation := s.generation + 1 }
        (word4 c.val f.val o.code st.code) 0 := by
  obtain ⟨horigin, hset⟩ := setUpMigration_origin (i := i) (source := source) (c := c) (after := after)
    .command hf
  have hstart : ¬s.startRefused c after = true := fun hr => by
    obtain ⟨j, hj, hbad⟩ := startRefused_iff.1 hr
    exact hbad.elim (ha j hj).1 (ha j hj).2
  have hchan : (s.setUpMigration i source f c after .command).chan c = { s.chan c with state := st } :=
    (chan_set (s := s) (by rw [hset, hst]) c).trans (if_pos rfl)
  rw [migrate_chosen h hc ht, if_neg hstart, hchan, hset, horigin, hst]

end

theorem exec_migrate (s : State) :
    exec .migrate s = .next (s.takeCommand (· == 0x30) migrateCommand) := rfl

end Sys2Proof.Machine.ChannelProofs

open Sys2Proof Sys2Proof.Machine Sys2Proof.Machine.Laws Sys2Proof.Machine.MapProofs
  Sys2Proof.Machine.ChannelProofs

/-- Settles O8. -/
theorem migrateSetsUpAMigration : Obligations.MigrateSetsUpAMigration := by
  intro s w rest ht
  have hrefused {st : Status} := refused_of_takes (st := st) (exec_migrate s) ht
  refine ⟨fun h => hrefused (migrateCommand_badArg h), fun i target chan after hi hta hch hst => ?_⟩
  have hrun := migrateCommand_guarded (s := { s with cmdQ := rest }) hi hta hch hst
  refine ⟨fun hp => hrefused (hrun.trans (guarded_notActive hp)), fun hp => ?_⟩
  have hin := hrun.trans (guarded_active hp)
  refine ⟨fun f c h => hrefused (hin.trans (migrate_busy h)),
    fun h => hrefused (hin.trans (migrate_unmapped h)), fun source hl => ?_⟩
  have hloc : (State.slice { s with cmdQ := rest } i).loc = .mapped source := hl
  refine ⟨fun c hc hb => ?_, fun hc hnone => ?_, fun c hidle hc => ?_⟩
  · subst hc
    exact hrefused (hin.trans (migrate_channelRefused hloc (chooseChannel_busy hb)))
  · subst hc
    exact hrefused (hin.trans (migrate_channelRefused hloc (chooseChannel_none hnone)))
  have hchan : State.chooseChannel { s with cmdQ := rest } chan = .ok c := chooseChannel_ok hidle hc
  refine ⟨fun f hf h1 h2 => ?_, fun hf hq => ?_, fun f q o hf hq => ?_⟩
  · subst hf
    exact hrefused (hin.trans (migrate_targetRefused hloc hchan (chooseTarget_wrongState h1 h2)))
  · subst hf
    exact hrefused (hin.trans (migrate_targetRefused hloc hchan (chooseTarget_noFrame hq)))
  have htarget : State.chooseTarget { s with cmdQ := rest } target = .ok f :=
    chooseTarget_ok hf (hq.imp And.left And.left)
  refine ⟨fun j hj hbad => ?_, fun hafter m st hm hstate => ?_⟩
  · exact hrefused (hin.trans ((migrate_chosen hloc hchan htarget).trans
      (if_pos (startRefused_iff.2 ⟨j, hj, hbad⟩))))
  · subst hm
    exact exec_of_takes (exec_migrate s) ht (hin.trans (migrate_setsUp hloc hchan htarget hq hafter
      (newState_of hstate)))

end

section
/-! CLEAR_POISON: its checks in order and the entry it removes (R75, R85). -/

namespace Sys2Proof.Machine.OutcomeProofs

open Sys2Proof Sys2Proof.Machine Sys2Proof.Machine.Laws Sys2Proof.Machine.MapProofs

variable {w : CmdWord} {s : State} {i : SliceNo} {l : LineNo}

theorem exec_clearPoison (s : State) :
    exec .clearPoison s = .next (s.takeCommand (· == 0x40) clearPoisonCommand) := rfl

theorem clearPoisonCommand_badArg (h : 47 < byteOf w.cmd1 0 ∨ 16383 < lowHalf w.cmd2) :
    clearPoisonCommand w s = s.refuse .badArg := by
  rw [clearPoisonCommand]
  rcases h with hi | hl
  · rw [argSlice_out hi]
  · rw [argLine_out hl]
    cases argSlice (byteOf w.cmd1 0) <;> rfl

/-- CLEAR_POISON of a slice and a line in range: phase and lock are checked, then the list. -/
theorem clearPoisonCommand_guarded (hi : byteOf w.cmd1 0 = i.val) (hl : lowHalf w.cmd2 = l.val) :
    clearPoisonCommand w s = s.guarded [.staged, .active] true
      (if (i, l) ∈ s.poison then
        (s.dropPoison i l).done
          (word4 i.val (s.poison.idxOf (i, l)) (s.poison.erase (i, l)).length 0) (word2 l.val 0)
      else s.refuse .wrongState) := by
  rw [clearPoisonCommand, argSlice_of_eq hi, argLine_of_eq hl]
  simp only [List.contains_iff_mem]
  rfl

/-- R75: the entry leaves its position, and those behind it close up. -/
theorem dropPoison_at {before behind : List (SliceNo × LineNo)}
    (h : s.poison = before ++ (i, l) :: behind) (hb : (i, l) ∉ before) :
    s.dropPoison i l = { s with poison := before ++ behind } := by
  rw [State.dropPoison, h, List.erase_append_right _ hb, List.erase_cons_head]

theorem clearPoison_removes {before behind : List (SliceNo × LineNo)}
    (h : s.poison = before ++ (i, l) :: behind) (hb : (i, l) ∉ before) :
    (s.dropPoison i l).done
        (word4 i.val (s.poison.idxOf (i, l)) (s.poison.erase (i, l)).length 0) (word2 l.val 0) =
      State.done { s with poison := before ++ behind }
        (word4 i.val before.length (before.length + behind.length) 0) (word2 l.val 0) := by
  have hidx : s.poison.idxOf (i, l) = before.length := by
    rw [h, List.idxOf_append_of_notMem hb, List.idxOf_cons_self, Nat.add_zero]
  have hlen : (s.poison.erase (i, l)).length = before.length + behind.length := by
    rw [h, List.erase_append_right _ hb, List.erase_cons_head, List.length_append]
  rw [hidx, hlen, dropPoison_at h hb]

end Sys2Proof.Machine.OutcomeProofs

open Sys2Proof Sys2Proof.Machine Sys2Proof.Machine.MapProofs Sys2Proof.Machine.OutcomeProofs

/-- Settles O12: the checks in order, then the list split at the entry. -/
theorem clearPoisonRemovesOneEntry : Obligations.ClearPoisonRemovesOneEntry := by
  intro s w rest ht
  have hrefused {st : Status} := refused_of_takes (st := st) (exec_clearPoison s) ht
  refine ⟨fun h => hrefused (clearPoisonCommand_badArg h), fun i l hi hl => ?_⟩
  have hrun := clearPoisonCommand_guarded (s := { s with cmdQ := rest }) hi hl
  refine ⟨fun hp => hrefused (hrun.trans (guarded_outOfService hp)),
    fun hp hk => hrefused (hrun.trans (guarded_inService_locked hp hk)),
    fun hp hk habsent => ?_, fun before behind hp hk hlist hb => ?_⟩
  all_goals have hin := hrun.trans (guarded_inService hp hk)
  · exact hrefused (hin.trans (if_neg habsent))
  · have hmem : (i, l) ∈ s.poison := by simp [hlist]
    exact exec_of_takes (exec_clearPoison s) ht ((hin.trans (if_pos hmem)).trans
      (clearPoison_removes (s := { s with cmdQ := rest }) hlist hb))

end

section
/-! What the end of an operation does to the work that asked for it: a data-port read or write, a scrub's
read or its write-back (R77 to R79, R82, R94, R100, R101, R112 to R114). -/

namespace Sys2Proof.Machine.OutcomeProofs

open Sys2Proof Sys2Proof.Machine Sys2Proof.Machine.Laws Sys2Proof.Machine.MapProofs
  Sys2Proof.Machine.ChannelProofs

/-! ## Requests for a poison entry (R77) -/

section
variable {s : State} {i : SliceNo} {l : LineNo}

theorem addPoison_present (h : (i, l) ∈ s.poison) : s.addPoison i l = s := by
  rw [State.addPoison, poisonResult_present h]

theorem addPoison_full (h : (i, l) ∉ s.poison) (hn : 32 ≤ s.poison.length) :
    s.addPoison i l = { s with flags := s.flags ||| Flag.poisonFull.mask } := by
  rw [State.addPoison, poisonResult_full h hn]
  rfl

/-- The list `after` and the flag with which the poison list `before` answers a request to add `e`:
present already, added at the tail, or the list full (R77). -/
def PoisonAnswer (before : List (SliceNo × LineNo)) (e : SliceNo × LineNo)
    (after : List (SliceNo × LineNo)) (flag : BitVec 13) : Prop :=
  e ∈ before ∧ after = before ∧ flag = 0 ∨
  e ∉ before ∧ before.length < 32 ∧ after = before ++ [e] ∧ flag = Flag.poisonAdded.mask ∨
  e ∉ before ∧ 32 ≤ before.length ∧ after = before ∧ flag = Flag.poisonFull.mask

theorem addPoison_of_answer {after : List (SliceNo × LineNo)} {flag : BitVec 13}
    (h : PoisonAnswer s.poison (i, l) after flag) :
    s.addPoison i l = { s with poison := after, flags := s.flags ||| flag } := by
  rcases h with ⟨hm, rfl, rfl⟩ | ⟨hm, hn, rfl, rfl⟩ | ⟨hm, hn, rfl, rfl⟩
  · rw [addPoison_present hm, BitVec.ofNat_eq_ofNat, BitVec.or_zero]
  · exact addPoison_added hm hn
  · exact addPoison_full hm hn

end

/-! ## The head of a module port -/

section
variable {s : State} {k : Socket} {op : ModOp} {rest : List ModOp} {i : Initiator} {t : Txn}
  {f : FrameNo} {g : Option FrameNo} {n : Nat}

/-- R100: the outcome of a read of an initiator's transaction is taken by that transaction. -/
theorem exec_dataPortReadOutcome (hp : s.powered = true) (hq : (s.arb k).port = op :: rest)
    (hr : op.req = .dataPort i) (ha : op.act = .read) (hl : op.standing = .live)
    (ht : (s.port i).txn = .steered t f g n) (o : ReadOutcome) :
    exec (.dataPortReadOutcome k o) s = .next (s.readOutcome k op i t o) := by
  show Host.Outcome.next (s.whenOn _) = _
  rw [State.whenOn, if_pos hp, nextOp_of_port hq]
  dsimp only
  rw [hr, ha, hl]
  dsimp only
  rw [ht]

/-- R94: the completion of a write of an initiator's transaction is taken by that transaction. -/
theorem exec_dataPortWriteComplete (hp : s.powered = true) (hq : (s.arb k).port = op :: rest)
    (hr : op.req = .dataPort i) (ha : op.act ≠ .read) (hl : op.standing = .live)
    (ht : (s.port i).txn = .steered t f g n) :
    exec (.dataPortWriteComplete k) s = .next (s.writeComplete k op i t f g n) := by
  show Host.Outcome.next (s.whenOn _) = _
  rw [State.whenOn, if_pos hp, nextOp_of_port hq]
  dsimp only
  rw [hr, isWrite_iff.2 ha, hl]
  dsimp only
  rw [ht]

/-- R112: the outcome of the scrubber's read is taken by the scrub in flight. -/
theorem exec_scrubReadOutcome (hp : s.powered = true) (hq : (s.arb k).port = op :: rest)
    (hr : op.req = .scrubber) (ha : op.act = .read) (hl : op.standing = .live) (o : ReadOutcome) :
    exec (.scrubReadOutcome k o) s = .next (s.scrubRead k op o) := by
  show Host.Outcome.next (s.whenOn _) = _
  rw [State.whenOn, if_pos hp, nextOp_of_port hq]
  dsimp only
  rw [hr, ha, hl]

/-- R113: the completed write-back ends its scrub. -/
theorem exec_scrubWriteBackComplete (hp : s.powered = true) (hq : (s.arb k).port = op :: rest)
    (hr : op.req = .scrubber) (ha : op.act ≠ .read) (hl : op.standing = .live) :
    exec (.scrubWriteBackComplete k) s = .next (s.landed k op rest).endScrub := by
  show Host.Outcome.next (s.whenOn _) = _
  rw [State.whenOn, if_pos hp, nextOp_of_port hq]
  dsimp only
  rw [hr, isWrite_iff.2 ha, hl, complete_eq_landed hq]

end

/-! ## The answer to a read (R78, R100, R101) -/

section
variable {s : State} {k : Socket} {op : ModOp} {rest : List ModOp} {i : Initiator} {t : Txn}

theorem landed_takeOutcome_ports (f : FrameNo) (o : ReadOutcome) :
    ((s.landed k op rest).takeOutcome f o).ports = s.ports := by rw [takeOutcome_frame]; rfl

theorem takeOutcome_poison (s : State) (f : FrameNo) (o : ReadOutcome) :
    (s.takeOutcome f o).poison = s.poison := by rw [takeOutcome_frame]

theorem takeOutcome_slice (s : State) (f : FrameNo) (o : ReadOutcome) (i : SliceNo) :
    (s.takeOutcome f o).slice i = s.slice i := by rw [takeOutcome_frame]; rfl

theorem takeOutcome_scrub (s : State) (f : FrameNo) (o : ReadOutcome) :
    (s.takeOutcome f o).scrub = s.scrub := by rw [takeOutcome_frame]

/-- R103: an answer ends the transaction, whatever else its event has changed. -/
theorem answer_of_ports {u : State} (h : u.ports = s.ports) (i : Initiator) (r : PortResp)
    (d : PortData) :
    u.answer i r d =
      { u with ports := s.ports.set i { txn := .idle, answer := some { resp := r, data := d } } } := by
  rw [State.answer, State.setPort, h]

/-- R91, R100: a word read returns the word at its index, a line read the line. -/
theorem readData_eq {op : TxnOp} {d : Line} {data : PortData}
    (h : (∃ w, op = .readWord w ∧ data = .word d[w]) ∨ op = .readLine ∧ data = .line d) :
    op.readData d = data := by
  rcases h with ⟨w, rfl, rfl⟩ | ⟨rfl, rfl⟩ <;> rfl

theorem readOutcome_good (hq : (s.arb k).port = op :: rest) {o : ReadOutcome}
    (ho : o ≠ .uncorrectable) :
    s.readOutcome k op i t o =
      { (s.landed k op rest).takeOutcome op.fl.frame o with
        ports := s.ports.set i
          { txn := .idle
            answer := some { resp := .okay, data := t.op.readData (s.contents op.fl) } } } := by
  unfold State.readOutcome
  rw [complete_eq_landed hq]
  cases o with
  | uncorrectable => exact absurd rfl ho
  | clean => exact answer_of_ports (landed_takeOutcome_ports _ _) i _ _
  | corrected => exact answer_of_ports (landed_takeOutcome_ports _ _) i _ _

/-- The poison list and the flag that the loss of a read leaves: no entry is asked for once the slice is
UNMAPPED (R78). -/
def LostReadAnswer (s : State) (t : Txn) (after : List (SliceNo × LineNo)) (flag : BitVec 13) : Prop :=
  (s.slice t.slice).loc = .unmapped ∧ after = s.poison ∧ flag = 0 ∨
  (s.slice t.slice).loc ≠ .unmapped ∧ PoisonAnswer s.poison (t.slice, t.line) after flag

/-- R77, R78, R101: what a lost read leaves of the poison list and the flags. -/
theorem readLost_eq {after : List (SliceNo × LineNo)} {flag : BitVec 13}
    (h : LostReadAnswer s t after flag) :
    s.readLost t =
      { s with poison := after, flags := s.flags ||| flag ||| Flag.uncorrectable.mask } := by
  rw [State.readLost]
  rcases h with ⟨hu, rfl, rfl⟩ | ⟨hu, h⟩
  · rw [if_pos hu, BitVec.ofNat_eq_ofNat, BitVec.or_zero]
    rfl
  · rw [if_neg hu, addPoison_of_answer h]
    rfl

theorem readOutcome_lost (hq : (s.arb k).port = op :: rest)
    {after : List (SliceNo × LineNo)} {flag : BitVec 13}
    (h : LostReadAnswer s t after flag) :
    s.readOutcome k op i t .uncorrectable =
      { (s.landed k op rest).takeOutcome op.fl.frame .uncorrectable with
        poison := after
        flags := ((s.landed k op rest).takeOutcome op.fl.frame .uncorrectable).flags ||| flag |||
          Flag.uncorrectable.mask
        ports := s.ports.set i
          { txn := .idle, answer := some { resp := .uncorrectable, data := .none } } } := by
  have hlost : LostReadAnswer ((s.landed k op rest).takeOutcome op.fl.frame .uncorrectable) t after
      flag := by
    rw [LostReadAnswer, takeOutcome_slice, takeOutcome_poison]
    exact h
  rw [State.readOutcome, complete_eq_landed hq]
  dsimp only
  rw [readLost_eq hlost]
  refine answer_of_ports ?_ i _ _
  exact landed_takeOutcome_ports _ _

end

/-! ## The end of a write (R82, R94) -/

section
variable {s : State} {k : Socket} {op : ModOp} {rest : List ModOp} {i : Initiator} {t : Txn}
  {f : FrameNo} {g : Option FrameNo}

theorem isLineWrite_iff {op : TxnOp} : op.isLineWrite = true ↔ ∃ d, op = .writeLine d := by
  cases op <;> simp [TxnOp.isLineWrite]

/-- R94: with two writes outstanding, one completion leaves one. -/
theorem writeComplete_first (hq : (s.arb k).port = op :: rest) :
    s.writeComplete k op i t f g 2 =
      State.testRequests { s.landed k op rest with
        ports := s.ports.set i { s.port i with txn := .steered t f g 1 } } op.fl := by
  rw [State.writeComplete, complete_eq_landed hq]
  rfl

/-- R82, R94: the last completion answers, and a line write takes its poison entry away. -/
theorem writeComplete_last (hq : (s.arb k).port = op :: rest) {list : List (SliceNo × LineNo)}
    (h : (∃ d, t.op = .writeLine d) ∧ list = s.poison.erase (t.slice, t.line) ∨
      (∀ d, t.op ≠ .writeLine d) ∧ list = s.poison) :
    s.writeComplete k op i t f g 1 =
      State.testRequests { s.landed k op rest with
        poison := list
        ports := s.ports.set i
          { txn := .idle, answer := some { resp := .okay, data := .none } } } op.fl := by
  rw [State.writeComplete, complete_eq_landed hq]
  dsimp only
  rw [if_pos (Nat.le_refl 1), State.writeDone]
  rcases h with ⟨hw, rfl⟩ | ⟨hw, rfl⟩
  · rw [if_pos (isLineWrite_iff.2 hw)]
    rfl
  · rw [if_neg fun hl => let ⟨d, hd⟩ := isLineWrite_iff.1 hl; hw d hd]
    rfl

end

/-! ## The outcome of a scrub (R79, R112 to R114) -/

section
variable {s : State} {k : Socket} {op : ModOp} {rest : List ModOp} {fl : FrameLine} {d : Line}

/-- R112: a clean line ends its scrub. -/
theorem scrubRead_clean (hq : (s.arb k).port = op :: rest) :
    s.scrubRead k op .clean = (s.landed k op rest).endScrub := by
  rw [State.scrubRead, complete_eq_landed hq]

theorem scrubRead_corrected (hq : (s.arb k).port = op :: rest) :
    s.scrubRead k op .corrected =
      (s.landed k op rest).scrubCorrected op.fl (s.contents op.fl) := by
  rw [State.scrubRead, complete_eq_landed hq]

theorem scrubRead_lost (hq : (s.arb k).port = op :: rest) :
    s.scrubRead k op .uncorrectable = (s.landed k op rest).scrubLost op.fl := by
  rw [State.scrubRead, complete_eq_landed hq]

theorem scrubCorrected_inUse
    (h : ((s.takeOutcome fl.frame .corrected).frame fl.frame).state.inUse = true) :
    s.scrubCorrected fl d =
      State.request
        { s.takeOutcome fl.frame .corrected with scrub := { s.scrub with stage := .writingBack } }
        (liveOp .scrubber fl (.writeLine d)) := by
  rw [State.scrubCorrected]
  dsimp only
  rw [if_pos h, takeOutcome_scrub]

theorem scrubCorrected_notInUse
    (h : ((s.takeOutcome fl.frame .corrected).frame fl.frame).state.inUse = false) :
    s.scrubCorrected fl d = (s.takeOutcome fl.frame .corrected).endScrub := by
  rw [State.scrubCorrected]
  exact if_neg (by simp [h])

theorem scrubLost_bound {i : SliceNo}
    (h : ((s.takeOutcome fl.frame .uncorrectable).frame fl.frame).state = .bound i) :
    s.scrubLost fl = ((s.takeOutcome fl.frame .uncorrectable).addPoison i fl.line).endScrub := by
  rw [State.scrubLost]
  rw [h]

theorem scrubLost_notBound
    (h : ((s.takeOutcome fl.frame .uncorrectable).frame fl.frame).state.isBound = false) :
    s.scrubLost fl = (s.takeOutcome fl.frame .uncorrectable).endScrub := by
  rw [State.scrubLost]
  split
  · next hb => rw [hb] at h; cases h
  · rfl

end

end Sys2Proof.Machine.OutcomeProofs

open Sys2Proof Sys2Proof.Machine Sys2Proof.Machine.OutcomeProofs

/-- Settles O29; a lost read asks for its poison entry by the slice's state, then by the list. -/
theorem readOutcomesAnswerTheInitiator : Obligations.ReadOutcomesAnswerTheInitiator := by
  intro s k op rest i t f g n hp hq hr ha hl ht
  have hexec := exec_dataPortReadOutcome hp hq hr ha hl ht
  refine ⟨fun o data ho hdata => ?_, fun list flag h => ?_⟩
  · rw [hexec, readOutcome_good hq ho, readData_eq hdata]
  · rw [hexec, readOutcome_lost hq]
    by_cases hu : (s.slice t.slice).loc = .unmapped
    · refine .inl ⟨hu, ?_⟩
      rcases h with ⟨-, h⟩ | ⟨hmapped, -⟩
      · exact h
      · exact absurd hu hmapped
    · refine .inr ⟨hu, ?_⟩
      rcases h with ⟨hunm | hmem, h⟩ | ⟨-, hmem, ⟨hn, h⟩ | ⟨hn, h⟩⟩
      · exact absurd hunm hu
      · exact .inl ⟨hmem, h⟩
      · exact .inr (.inl ⟨hmem, hn, h⟩)
      · exact .inr (.inr ⟨hmem, hn, h⟩)

/-- Settles O30, by the number of writes outstanding. -/
theorem writeCompletionsLandAndAnswer : Obligations.WriteCompletionsLandAndAnswer := by
  intro s k op rest i t f g n hp hq hr ha hl ht
  have hexec := exec_dataPortWriteComplete hp hq hr ha hl ht
  refine ⟨fun hn => ?_, fun hn list hlist => ?_⟩
  · subst hn
    rw [hexec, writeComplete_first hq]
  · subst hn
    rw [hexec, writeComplete_last hq hlist]

/-- Settles O42, by the outcome and then by the frame's state once the outcome has marked it. -/
theorem scrubOutcomesWriteBackOrEnd : Obligations.ScrubOutcomesWriteBackOrEnd := by
  intro s k op rest u hp hq hr hl hu
  obtain rfl : u = fun o => (s.landed k op rest).takeOutcome op.fl.frame o := funext hu
  refine ⟨fun ha => exec_scrubWriteBackComplete hp hq hr ha hl, fun ha => ?_⟩
  have hexec := exec_scrubReadOutcome hp hq hr ha hl
  refine ⟨?_, fun h => ?_, fun h => ?_, fun h => ?_, fun i h list flag hlist => ?_⟩
  · rw [hexec, scrubRead_clean hq]
  · rw [hexec, scrubRead_corrected hq, scrubCorrected_inUse h]
    rfl
  · rw [hexec, scrubRead_corrected hq, scrubCorrected_notInUse h]
  · rw [hexec, scrubRead_lost hq, scrubLost_notBound h]
  · have hanswer : PoisonAnswer ((s.landed k op rest).takeOutcome op.fl.frame .uncorrectable).poison
        (i, op.fl.line) list flag := by
      rw [takeOutcome_poison]
      exact hlist
    rw [hexec, scrubRead_lost hq, scrubLost_bound h, addPoison_of_answer hanswer]

end

section
/-! The work under way at the data port and the modules, as one part of the state: what the map, the frames, the
poison list and the records of channels undergo leaves it alone (chapter 5 beside chapters 1 to 4). -/

namespace Sys2Proof.Machine.WorkProofs

open Sys2Proof Sys2Proof.Machine Sys2Proof.Machine.Laws Sys2Proof.Machine.MapProofs

/-- The part of the state that transactions, claims and module operations live in, with what FAULT and the
queue of waiting commands need. -/
structure Work where
  pending : List Instr
  powered : Bool
  ports : Vector Port 4
  places : Vector Place 5
  reqOrder : List Owner
  arbs : Vector Arbiter 4
  stage : ScrubStage
  lost : Bool
  faultEnable : Bool

def work (s : State) : Work :=
  { pending := s.pending, powered := s.powered, ports := s.ports, places := s.places
    reqOrder := s.reqOrder, arbs := s.arbs, stage := s.scrub.stage
    lost := s.flags.getLsbD Flag.uncorrectable.bit, faultEnable := s.faultEnable }

section
variable (s : State)

/-! ## Flags, frames, queues and the poison list -/

/-- R101: a flag other than UNCORRECTABLE leaves its bit. -/
theorem mask_lost {f : Flag} (h : f ≠ .uncorrectable) :
    f.mask.getLsbD Flag.uncorrectable.bit = false := by
  cases f
  case uncorrectable => exact absurd rfl h
  all_goals rfl

theorem work_raise {f : Flag} (h : f ≠ .uncorrectable) : work (s.raise f) = work s := by
  simp [work, mask_lost h]

theorem work_raiseIf (b : Bool) {f : Flag} (h : f ≠ .uncorrectable) :
    work (s.raiseIf b f) = work s := by
  cases b
  · rfl
  · exact work_raise s h

theorem work_bumpIf (b : Bool) : work (s.bumpIf b) = work s := by
  cases b <;> rfl

theorem work_removeSpare (f : FrameNo) : work (s.removeSpare f) = work s :=
  (work_raiseIf _ _ (by simp)).trans (work_raiseIf _ _ (by simp))

theorem work_retireFrame (f : FrameNo) : work (s.retireFrame f) = work s :=
  work_raise _ (by simp)

theorem work_setSuspect (f : FrameNo) (c : Cause) : work (s.setSuspect f c) = work s :=
  work_raise _ (by simp)

theorem work_markSuspect (f : FrameNo) (c : Cause) : work (s.markSuspect f c) = work s := by
  refine Eq.trans ?_ (work_setSuspect s f c)
  unfold State.markSuspect
  split
  · exact work_retireFrame _ f
  · exact (work_retireFrame _ f).trans (work_removeSpare _ f)
  · dsimp only
    split <;> rfl
  · rfl

theorem work_releaseFrame (f : FrameNo) : work (s.releaseFrame f) = work s := by
  unfold State.releaseFrame
  split
  · refine Eq.trans ?_ (work_retireFrame s f)
    rw [leaveRetireQ_frame]
    rfl
  · rfl

theorem work_countAndMark (f : FrameNo) (o : ReadOutcome) : work (s.countAndMark f o) = work s := by
  have hcount : work (s.countOnly f o) = work s := by rw [countOnly_frame]; rfl
  rcases countAndMark_cases s f o with ⟨-, e⟩ | ⟨cause, -, e, -, -⟩
  · rw [e, hcount]
  · rw [e, work_markSuspect, hcount]

theorem work_takeOutcome (f : FrameNo) (o : ReadOutcome) : work (s.takeOutcome f o) = work s :=
  (work_bumpIf _ _).trans (work_countAndMark s f o)

theorem work_addPoison (i : SliceNo) (l : LineNo) : work (s.addPoison i l) = work s := by
  unfold State.addPoison
  split
  · rfl
  · exact work_raise _ (by simp)
  · exact work_raise _ (by simp)

/-! ## Migrations -/

theorem work_returnTarget (m : Migration) (cause : LastOutcome) :
    work (s.returnTarget m cause) = work s := by
  unfold State.returnTarget
  split
  · exact work_retireFrame s _
  · split <;> rfl

theorem work_abortRecords (c : ChanNo) (cause : LastOutcome) :
    work (s.abortRecords c cause) = work s := by
  unfold State.abortRecords
  split
  · rfl
  · next m _ =>
    have hrevert : work (s.revertSlice m.slice) = work s := by rw [revertSlice_frame]; rfl
    dsimp only
    refine Eq.trans (work_raiseIf _ (cause != .reset) (f := .migAborted) (by simp)) ?_
    exact (work_returnTarget _ m cause).trans hrevert

theorem work_setUpMigration (i : SliceNo) (f g : FrameNo) (c : ChanNo) (j : Option ChanNo)
    (b : InitiatedBy) : work (s.setUpMigration i f g c j b) = work s := by
  have htake : work (s.takeTarget g) = work s := by
    unfold State.takeTarget
    split
    · exact work_removeSpare s g
    · rfl
  unfold State.setUpMigration
  generalize s.takeTarget g = u at htake
  rw [← htake]
  simp [work, State.setLoc]

theorem work_commit (c : ChanNo) (m : Migration) (source : FrameNo) :
    work (s.commit c m source) = work s := by
  have hstart (l : List ChanNo) (u : State) :
      work (l.foldl (fun t d => t.startChannel d) u) = work u := by rw [startChannels_eq]; rfl
  exact ((hstart _ _).trans (work_raise _ (by simp))).trans (work_releaseFrame _ source)

/-! ## The scrub timer -/

theorem work_startScrubber : work s.startScrubber = work s := rfl

theorem work_followInterval (n : Nat) : work (s.followInterval n) = work s := by
  unfold State.followInterval
  dsimp only
  split
  · rfl
  · split <;> rfl

/-! ## Taking a command -/

theorem work_takeCommand {forCode : Byte → Bool} {run : CmdWord → State → CmdOut}
    (hrun : ∀ w u, work (run w u).state = work u) : work (s.takeCommand forCode run) = work s := by
  unfold State.takeCommand State.whenOn
  split
  · split
    · rfl
    · split
      · exact hrun _ _
      · rfl
  · rfl

variable (w : CmdWord)

theorem work_guarded {ps : List Phase} {b : Bool} {run : CmdOut} (h : work run.state = work s) :
    work (s.guarded ps b run).state = work s := by
  unfold State.guarded
  split
  · split
    · rfl
    · exact h
  · rfl

/-! ## The commands that leave the work alone -/

theorem work_map : work (mapCommand w s).state = work s := by
  have hbind (i : SliceNo) (f : FrameNo) (p : Bool) (d : DomainSet) :
      work (s.bindSlice i f p d) = work s := by
    have htake : work (if (s.frame f).state = .spare then s.removeSpare f else s) = work s := by
      split
      · exact work_removeSpare s f
      · rfl
    unfold State.bindSlice
    generalize (if (s.frame f).state = .spare then s.removeSpare f else s) = u at htake
    rw [← htake]
    simp [work, State.setFrameState]
  unfold mapCommand
  split
  · refine work_guarded s ?_
    split
    · rfl
    · rfl
    · split
      · rfl
      · exact hbind ..
  · rfl

theorem work_unmap : work (unmapCommand w s).state = work s := by
  unfold unmapCommand
  split
  · refine work_guarded s ?_
    split
    · rfl
    · rfl
    · exact work_releaseFrame _ _
  · rfl

theorem work_setAttr : work (setAttrCommand w s).state = work s := by
  unfold setAttrCommand
  split
  · exact work_guarded s (work_bumpIf _ _)
  · rfl

theorem work_addSpare : work (addSpareCommand w s).state = work s := by
  unfold addSpareCommand
  split
  · refine work_guarded s ?_
    split <;> rfl
  · rfl

theorem work_withdrawSpare : work (withdrawSpareCommand w s).state = work s := by
  unfold withdrawSpareCommand
  split
  · refine work_guarded s ?_
    split
    · exact work_removeSpare s _
    · rfl
  · rfl

theorem work_clearCounts : work (clearCountsCommand w s).state = work s := by
  unfold clearCountsCommand
  split
  · refine work_guarded s ?_
    split <;> rfl
  · rfl

theorem work_migrate : work (migrateCommand w s).state = work s := by
  unfold migrateCommand
  split
  · refine work_guarded s ?_
    unfold State.migrate
    split
    · rfl
    · rfl
    · split
      · rfl
      · split
        · rfl
        · split
          · rfl
          · exact work_setUpMigration ..
  · rfl

theorem work_clearPoison : work (clearPoisonCommand w s).state = work s := by
  unfold clearPoisonCommand
  split
  · refine work_guarded s ?_
    split <;> rfl
  · rfl

theorem work_setPolicy : work (setPolicyCommand w s).state = work s := by
  unfold setPolicyCommand
  split
  · dsimp only [State.done]
    split
    · exact work_followInterval _ _
    · rfl
  · rfl

theorem work_adoptDefault : work (adoptDefaultCommand w s).state = work s :=
  work_guarded s ((work_bumpIf _ _).trans (by simp only [work]))

theorem work_importS (x : Option ImportSession) : work { s with importS := x } = work s := rfl

theorem work_exportS (x : Option ExportSession) : work { s with exportS := x } = work s := rfl

theorem work_endRefused (st : Status) (t : ImportSession) : work (s.endRefused st t).state = work s := rfl

theorem work_importRecord : work (importRecordCommand w s).state = work s := by
  unfold importRecordCommand
  dsimp only
  generalize (if byteOf w.cmd1 0 ≤ 113 then argRecord (w.cmd2 ++ w.cmd3) else none) = offered
  cases offered with
  | none =>
    dsimp only
    split
    · exact work_endRefused s _ _
    · rfl
  | some r =>
    refine work_guarded s ?_
    cases s.importS with
    | none => rfl
    | some t =>
      dsimp only
      split
      · exact work_importS s _
      · split
        · exact work_endRefused s _ _
        · rfl

/-- R166, R167: a commit's tables are those of the map and the import session. -/
theorem work_importTables (t : ImportSession) : work (s.importTables t) = work s := by
  simp only [work, State.importTables]

theorem work_importEnd : work (importEndCommand w s).state = work s := by
  have hcommit (t : ImportSession) : work (s.importCommit t) = work s := by
    refine (work_bumpIf _ _).trans (((work_raiseIf _ _ ?_).trans (work_raiseIf _ _ ?_)).trans ?_)
    · simp
    · simp
    · exact (work_startScrubber _).trans (work_importTables s t)
  refine work_guarded s ?_
  split
  · rfl
  · next t _ =>
    unfold State.importEnd
    split
    · rfl
    · split
      · rfl
      · split
        · rfl
        · split
          · rfl
          · dsimp only [State.done]
            exact hcommit t

theorem work_exportNext : work (exportNextCommand w s).state = work s := by
  refine work_guarded s ?_
  split
  · rfl
  · split
    · exact work_exportS s _
    · exact work_exportS s _

theorem work_querySlice : work (querySliceCommand w s).state = work s := by
  unfold querySliceCommand
  split <;> rfl

theorem work_queryFrame : work (queryFrameCommand w s).state = work s := by
  unfold queryFrameCommand
  split <;> rfl

theorem work_queryChannel : work (queryChannelCommand w s).state = work s := by
  unfold queryChannelCommand
  split <;> rfl

theorem work_queryPoison : work (queryPoisonCommand w s).state = work s := by
  unfold queryPoisonCommand
  dsimp only
  split <;> rfl

theorem work_queryPart : work (queryPartCommand w s).state = work s := by
  unfold queryPartCommand
  dsimp only
  split <;> rfl

theorem work_lockMap : work (lockMapCommand w s).state = work s := work_guarded s rfl

theorem work_importBegin : work (importBeginCommand w s).state = work s := work_guarded s rfl

theorem work_importAbort : work (importAbortCommand w s).state = work s := work_guarded s rfl

theorem work_exportBegin : work (exportBeginCommand w s).state = work s := work_guarded s rfl

/-! ## The control aperture -/

theorem work_submit : work s.submit = work s := by
  unfold State.submit
  split
  · rfl
  · exact work_raise s (by simp)

theorem work_writePlain (r : PlainReg) (v : Word32) : work (s.writePlain r v) = work s := by
  cases r <;> rfl

/-! ## The warm restart's end of the migrations -/

theorem work_resetChannels : work s.resetChannels = work s := by
  have hfold (l : List ChanNo) (u : State) :
      work (l.foldl (fun t d => t.abortRecords d .reset) u) = work u := by
    induction l generalizing u with
    | nil => rfl
    | cons d l ih => exact (ih _).trans (work_abortRecords u d _)
  have hbroken (u : State) (q : List ChanNo) : work { u with broken := q } = work u := rfl
  exact (hbroken _ _).trans (hfold _ s)

end

end Sys2Proof.Machine.WorkProofs
end

section
/-! Each initiator's module operations that are requested and not completed, and the agreement of its
transaction record with them (R88, R94, R105). -/

namespace Sys2Proof.Machine.WorkProofs

open Sys2Proof Sys2Proof.Machine Sys2Proof.Machine.Laws Sys2Proof.Machine.MapProofs
  Sys2Proof.Machine.FrameProofs Sys2Proof.Machine.ChannelProofs

/-! ## Operations under way, socket by socket -/

/-- The operation is a data-port operation of the initiator's transaction. -/
def ofTxn (i : Initiator) (op : ModOp) : Bool := op.req == .dataPort i && op.standing == .live

/-- An initiator's operations among those an arbiter holds. -/
def liveIn (i : Initiator) (a : Arbiter) : List ModOp := (a.waiting ++ a.port).filter (ofTxn i)

theorem liveOps_eq (s : State) (i : Initiator) :
    s.liveOps i = (List.finRange 4).flatMap fun k => liveIn i (s.arb k) := rfl

theorem liveOps_perm {s t : State} {i : Initiator}
    (h : ∀ k, (liveIn i (t.arb k)).Perm (liveIn i (s.arb k))) : (t.liveOps i).Perm (s.liveOps i) :=
  List.Perm.flatMap_left _ fun k _ => h k

/-- A change of one arbiter adds to an initiator's operations, or takes from them, what it does there. -/
theorem liveOps_setArb {s : State} {k : Socket} {a : Arbiter} {i : Initiator} {x y : List ModOp}
    (h : (x ++ liveIn i a).Perm (y ++ liveIn i (s.arb k))) :
    (x ++ (s.setArb k a).liveOps i).Perm (y ++ s.liveOps i) := by
  have hsplit (u : State) : (u.liveOps i).Perm
      (liveIn i (u.arb k) ++ ((List.finRange 4).erase k).flatMap fun l => liveIn i (u.arb l)) :=
    (List.perm_cons_erase (List.mem_finRange k)).flatMap_right _
  have hrest : (((List.finRange 4).erase k).flatMap fun l => liveIn i ((s.setArb k a).arb l)) =
      ((List.finRange 4).erase k).flatMap fun l => liveIn i (s.arb l) := by
    refine List.flatMap_congr fun l hl => ?_
    have hne : k ≠ l := fun e => ((List.nodup_finRange 4).mem_erase_iff.1 hl).1 e.symm
    rw [setArb_arb, if_neg hne]
  refine ((hsplit _).append_left x).trans (List.Perm.trans ?_ ((hsplit s).append_left y).symm)
  rw [hrest, setArb_arb, if_pos rfl, ← List.append_assoc, ← List.append_assoc]
  exact h.append_right _

/-! ## Operations requested, granted and completed -/

section
variable {s : State} {i : Initiator} {op : ModOp}

/-- R105: an operation joins its transaction's when it is requested. -/
theorem request_liveOps (s : State) (op : ModOp) (i : Initiator) :
    ((s.request op).liveOps i).Perm ([op].filter (ofTxn i) ++ s.liveOps i) := by
  refine liveOps_setArb (x := []) ?_
  simp only [liveIn, List.filter_append, List.nil_append, List.append_assoc]
  exact List.perm_append_comm_assoc _ _ _

theorem request_liveOps_other (h : ofTxn i op = false) :
    ((s.request op).liveOps i).Perm (s.liveOps i) := by
  simpa [h] using request_liveOps s op i

theorem port_of_nextOp {k : Socket} (h : s.nextOp k = some op) : ∃ rest, (s.arb k).port = op :: rest :=
  (List.head?_eq_some_iff.1 h)

theorem complete_arb (s : State) (k l : Socket) (op : ModOp) : (s.complete k op).arb l =
    (s.setArb k { s.arb k with port := (s.arb k).port.tail }).arb l := by
  unfold State.complete
  dsimp only
  split <;> rfl

/-- R99: an operation leaves its transaction's when it completes. -/
theorem complete_liveOps {k : Socket} (hq : s.nextOp k = some op) (i : Initiator) :
    ([op].filter (ofTxn i) ++ (s.complete k op).liveOps i).Perm (s.liveOps i) := by
  obtain ⟨rest, hport⟩ := port_of_nextOp hq
  have harb : (s.complete k op).liveOps i =
      (s.setArb k { s.arb k with port := (s.arb k).port.tail }).liveOps i := by
    simp only [liveOps_eq, complete_arb]
  rw [harb]
  refine liveOps_setArb (y := []) ?_
  have hcons : op :: rest = [op] ++ rest := rfl
  simp only [liveIn, hport, List.tail_cons, List.nil_append, List.filter_append]
  rw [hcons, List.filter_append]
  exact List.perm_append_comm_assoc _ _ _

theorem complete_liveOps_other {k : Socket} (hq : s.nextOp k = some op) (h : ofTxn i op = false) :
    ((s.complete k op).liveOps i).Perm (s.liveOps i) := by
  simpa [h] using complete_liveOps hq i

/-- R65: an abandoned line copy takes no operation of the data port with it. -/
theorem abandon_liveIn (a : Arbiter) (c : ChanNo) (st : Standing) :
    liveIn i (a.abandon (.channel c) st) = liveIn i a := by
  have hwaiting : (a.waiting.filter fun op => op.req != .channel c).filter (ofTxn i) =
      a.waiting.filter (ofTxn i) := by
    rw [List.filter_filter]
    refine List.filter_congr fun op _ => ?_
    cases hr : op.req <;> simp [ofTxn, hr]
  have hport (l : List ModOp) : (l.map fun op =>
      if op.req = .channel c ∧ op.standing = .live then { op with standing := st } else op).filter
        (ofTxn i) = l.filter (ofTxn i) := by
    induction l with
    | nil => rfl
    | cons op l ih =>
      rw [List.map_cons, List.filter_cons, List.filter_cons, ih]
      by_cases hr : op.req = .channel c
      · have hnot : ∀ x, ofTxn i { op with standing := x } = false := fun x => by simp [ofTxn, hr]
        have hop : ofTxn i op = false := hnot op.standing
        split_ifs <;> simp_all
      · simp [hr]
  simp only [liveIn, Arbiter.abandon, List.filter_append, hwaiting, hport]

theorem eligibleOps_sublist (seen : List FrameLine) (l : List ModOp) :
    (eligibleOps seen l).Sublist l := by
  induction l generalizing seen with
  | nil => exact .slnil
  | cons op l ih =>
    unfold eligibleOps
    split
    · exact (ih seen).cons _
    · exact (ih _).cons_cons _

theorem choose_mem {a : Arbiter} (h : a.choose = some op) : op ∈ a.waiting := by
  have hfind {p : ModOp → Bool} (hp : (eligibleOps [] a.waiting).find? p = some op) : op ∈ a.waiting :=
    (eligibleOps_sublist _ _).mem (List.mem_of_find?_eq_some hp)
  unfold Arbiter.choose at h
  dsimp only at h
  simp only [Option.or_eq_some_iff] at h
  rcases h with h | ⟨-, h | ⟨-, h | ⟨-, h⟩⟩⟩
  · exact hfind h
  · exact hfind h
  · obtain ⟨c, -, hc⟩ := List.exists_of_findSome?_eq_some h
    exact hfind hc
  · exact hfind h

/-- R105: a grant hands an operation on, and the arbiter holds what it held. -/
theorem grant_ops {a : Arbiter} (h : op ∈ a.waiting) :
    ((a.grant op).waiting ++ (a.grant op).port).Perm (a.waiting ++ a.port) := by
  refine List.Perm.trans ?_ ((List.perm_cons_erase h).symm.append_right _)
  show (a.waiting.erase op ++ (a.port ++ [op])).Perm (op :: a.waiting.erase op ++ a.port)
  rw [← List.append_assoc]
  exact List.perm_append_singleton op _

end

/-! ## Records and operations in agreement -/

theorem matchesOps_perm {x : TxnState} {l m : List ModOp} (h : l.Perm m) (hm : x.matchesOps m) :
    x.matchesOps l := by
  cases x with
  | idle => exact (List.Perm.eq_nil (hm ▸ h))
  | held t o => exact ⟨List.Perm.eq_nil (hm.1 ▸ h), hm.2⟩
  | steered t f g n =>
    obtain ⟨hlen, h1, h2, hread, hops⟩ := hm
    exact ⟨h.length_eq.trans hlen, h1, h2, hread, fun op hop => hops op (h.mem_iff.1 hop)⟩

/-- Every transaction record stands, and every data-port operation under way. -/
structure SameTraffic (s t : State) : Prop where
  port : ∀ i, t.port i = s.port i
  ops : ∀ i, (t.liveOps i).Perm (s.liveOps i)

section
variable {s t u : State}

theorem SameTraffic.refl (s : State) : SameTraffic s s := ⟨fun _ => rfl, fun _ => .refl _⟩

theorem SameTraffic.trans (a : SameTraffic s t) (b : SameTraffic t u) : SameTraffic s u :=
  ⟨fun i => (b.port i).trans (a.port i), fun i => (b.ops i).trans (a.ops i)⟩

theorem SameTraffic.of_fields (hp : t.ports = s.ports) (ha : t.arbs = s.arbs) : SameTraffic s t := by
  have harb (k : Socket) : t.arb k = s.arb k := by simp only [State.arb, ha]
  refine ⟨fun i => by simp only [State.port, hp], fun i => liveOps_perm fun k => ?_⟩
  rw [harb]

theorem SameTraffic.portLaws (e : SameTraffic s t) (h : PortLaws s) : PortLaws t := fun i => by
  rw [e.port]
  exact matchesOps_perm (e.ops i) (h i)

theorem sameTraffic_request (s : State) {op : ModOp} (h : op.req.isDataPort = false) :
    SameTraffic s (s.request op) := by
  refine ⟨fun _ => rfl, fun i => request_liveOps_other ?_⟩
  cases hr : op.req <;> simp_all [ofTxn, Requester.isDataPort]

theorem sameTraffic_complete {k : Socket} {op : ModOp} (hq : s.nextOp k = some op)
    (h : op.req.isDataPort = false ∨ op.standing ≠ .live) : SameTraffic s (s.complete k op) := by
  refine ⟨fun i => ?_, fun i => complete_liveOps_other hq ?_⟩
  · rw [complete_frame]; rfl
  · rcases h with h | h
    · cases hr : op.req <;> simp_all [ofTxn, Requester.isDataPort]
    · simp [ofTxn, h]

theorem sameTraffic_abandon (s : State) (c : ChanNo) (st : Standing) :
    SameTraffic s { s with arbs := s.arbs.map fun a => a.abandon (.channel c) st } := by
  refine ⟨fun _ => rfl, fun i => liveOps_perm fun k => ?_⟩
  have harb : State.arb { s with arbs := s.arbs.map fun a => a.abandon (.channel c) st } k =
      (s.arb k).abandon (.channel c) st := by simp [State.arb]
  rw [harb, abandon_liveIn]

theorem sameTraffic_grant {k : Socket} {op : ModOp} (h : op ∈ (s.arb k).waiting) :
    SameTraffic s (s.setArb k ((s.arb k).grant op)) := by
  refine ⟨fun _ => rfl, fun i => liveOps_setArb (x := []) (y := []) ?_⟩
  exact (grant_ops h).filter _

end

/-! ## Claims and scrubs ask for operations of their own -/

section
variable (s : State)

theorem sameTraffic_claimAndRead (o : Owner) (fl : FrameLine) : SameTraffic s (s.claimAndRead o fl) := by
  have hplace (p : Place) : SameTraffic s ((s.unorder o).setPlace o p) := .of_fields rfl rfl
  cases o with
  | channel c => exact (hplace _).trans (sameTraffic_request _ rfl)
  | scrubber =>
    have hscrub (u : State) (p : Scrubber) : SameTraffic u { u with scrub := p } := .of_fields rfl rfl
    exact ((hplace _).trans (hscrub _ _)).trans (sameTraffic_request _ rfl)

theorem sameTraffic_askAndTest (o : Owner) (fl : FrameLine) : SameTraffic s (s.askAndTest o fl) := by
  rcases askAndTest_cases s o fl with e | e
  · rw [e]; exact sameTraffic_claimAndRead s o fl
  · rw [e]; exact .of_fields rfl rfl

theorem sameTraffic_chooseScrub : SameTraffic s s.chooseScrub := by
  rcases chooseScrub_cases s with ⟨p, e⟩ | ⟨p, gl, -, e⟩
  · rw [e]; exact .of_fields rfl rfl
  · rw [e]
    exact SameTraffic.trans (t := { s with scrub := p }) (.of_fields rfl rfl) (sameTraffic_askAndTest _ _ _)

theorem sameTraffic_finishScrub : SameTraffic s s.finishScrub := by
  unfold State.finishScrub
  dsimp only
  split
  · refine SameTraffic.trans ?_ (sameTraffic_chooseScrub _)
    exact .of_fields rfl rfl
  · exact .of_fields rfl rfl

theorem sameTraffic_grantClaim (o : Owner) (fl : FrameLine) : SameTraffic s (s.grantClaim o fl) := by
  unfold State.grantClaim
  split
  · exact sameTraffic_claimAndRead s _ fl
  · split
    · exact sameTraffic_claimAndRead s _ fl
    · refine SameTraffic.trans ?_ (sameTraffic_finishScrub _)
      exact .of_fields rfl rfl

theorem sameTraffic_testRequests (fl : FrameLine) : SameTraffic s (s.testRequests fl) := by
  unfold State.testRequests
  generalize s.reqOrder = l
  induction l generalizing s with
  | nil => exact .refl s
  | cons o l ih =>
    have hone : SameTraffic s (s.testOne fl o) := by
      unfold State.testOne
      split
      · exact sameTraffic_grantClaim s o fl
      · exact .refl s
    exact hone.trans (ih _)

theorem sameTraffic_beginCopy (c : ChanNo) : SameTraffic s (s.beginCopy c) := by
  unfold State.beginCopy
  split
  · exact sameTraffic_askAndTest s _ _
  · exact .refl s

end

end Sys2Proof.Machine.WorkProofs
end

section
/-! What a transaction's checks and steering do to its initiator's record and operations, and what every event
leaves of the initiators it does not serve (R87, R88, R94, R97, R98, R103). -/

namespace Sys2Proof.Machine.WorkProofs

open Sys2Proof Sys2Proof.Machine Sys2Proof.Machine.Laws Sys2Proof.Machine.MapProofs
  Sys2Proof.Machine.FrameProofs Sys2Proof.Machine.ChannelProofs

/-! ## What an event lets out -/

/-- An event that answers no data, leaves every initiator with nothing outstanding alone, and does nothing that
raises FAULT (R87, R101, R103, R174). -/
structure Discreet (s t : State) : Prop where
  pending : t.pending = s.pending
  powered : t.powered = s.powered
  enable : t.faultEnable = s.faultEnable
  lost : t.flags.getLsbD Flag.uncorrectable.bit = true → s.flags.getLsbD Flag.uncorrectable.bit = true
  data : ∀ i a, (t.port i).answer = some a → a.data ≠ .none → (s.port i).answer = some a
  idle : ∀ i, (s.port i).txn = .idle → t.port i = s.port i

section
variable {s t u : State}

theorem Discreet.refl (s : State) : Discreet s s := ⟨rfl, rfl, rfl, id, fun _ _ h _ => h, fun _ _ => rfl⟩

theorem Discreet.trans (a : Discreet s t) (b : Discreet t u) : Discreet s u where
  pending := b.pending.trans a.pending
  powered := b.powered.trans a.powered
  enable := b.enable.trans a.enable
  lost h := a.lost (b.lost h)
  data i x h hx := a.data i x (b.data i x h hx) hx
  idle i h := by
    have e := a.idle i h
    exact (b.idle i (by rw [e]; exact h)).trans e

/-- An event that leaves the ports and the flags alone is discreet. -/
theorem Discreet.of_ports (hpending : t.pending = s.pending) (hpowered : t.powered = s.powered)
    (henable : t.faultEnable = s.faultEnable) (hflags : t.flags = s.flags)
    (hports : ∀ i, t.port i = s.port i) : Discreet s t :=
  ⟨hpending, hpowered, henable, by rw [hflags]; exact id, fun i a h _ => by rwa [hports] at h,
    fun i _ => hports i⟩

/-- R103: an initiator with a transaction outstanding gets an answer without data, or keeps the one it had. -/
theorem discreet_setPort (s : State) {i : Initiator} {p : Port} (hi : (s.port i).txn ≠ .idle)
    (hp : ∀ a, p.answer = some a → a.data ≠ .none → (s.port i).answer = some a) :
    Discreet s (s.setPort i p) := by
  refine ⟨rfl, rfl, rfl, id, fun j a h ha => ?_, fun j hj => ?_⟩
  · rw [setPort_port] at h
    split at h
    · next e => rw [← e]; exact hp a h ha
    · exact h
  · rw [setPort_port, if_neg]
    rintro rfl
    exact hi hj

end

/-! ## The work left alone -/

section
variable {s t : State}

theorem discreet_of_work (h : work t = work s) : Discreet s t where
  pending := congrArg Work.pending h
  powered := congrArg Work.powered h
  enable := congrArg Work.faultEnable h
  lost hl := (congrArg Work.lost h).symm.trans hl
  data i a ha _ := by
    have hports : t.ports = s.ports := congrArg Work.ports h
    simpa only [State.port, hports] using ha
  idle i _ := by
    have hports : t.ports = s.ports := congrArg Work.ports h
    simp only [State.port, hports]

theorem sameTraffic_of_work (h : work t = work s) : SameTraffic s t :=
  .of_fields (congrArg Work.ports h) (congrArg Work.arbs h)

end

/-! ## A transaction checked and steered -/

/-- R90 to R93, R97: a transaction checked and steered is answered without data, given to its frames, a read to one
alone, or held on the claim that stands on its source line, if it is a write. -/
theorem checkAndSteer_outcomes (s : State) (i : Initiator) (t : Txn) :
    (∃ r, s.checkAndSteer i t = s.answer i r .none) ∨
    (∃ f g, (t.op.isWrite = false → g = none) ∧ s.checkAndSteer i t = s.issue i t f g) ∨
    ∃ o fl, t.op.isWrite = true ∧ s.claimOn fl = some o ∧ s.checkAndSteer i t = s.hold i t o := by
  cases hr : s.refusal i t with
  | some r => exact .inl ⟨r, checkAndSteer_refused hr⟩
  | none =>
    obtain ⟨f, hf⟩ := source_of_refusal_none hr
    rw [State.checkAndSteer, hr]
    cases hw : t.op.isWrite with
    | false => exact .inr (.inl ⟨f, none, fun _ => rfl, steer_read hf hw⟩)
    | true =>
      rw [steer_write hf hw, State.steerWrite]
      cases hc : s.claimOn ⟨f, t.line⟩ with
      | none => exact .inr (.inl ⟨f, _, nofun, rfl⟩)
      | some o => exact .inr (.inr ⟨o, _, rfl, hc, rfl⟩)

/-- The operations a transaction is given to its frames by: source first (R91, R94). -/
def issuedOps (i : Initiator) (t : Txn) (f : FrameNo) (g : Option FrameNo) : List ModOp :=
  liveOp (.dataPort i) ⟨f, t.line⟩ t.op.act ::
    (g.map fun g => liveOp (.dataPort i) ⟨g, t.line⟩ t.op.act).toList

theorem issue_liveOps (s : State) (i j : Initiator) (t : Txn) (f : FrameNo) (g : Option FrameNo) :
    ((s.issue i t f g).liveOps j).Perm ((issuedOps i t f g).filter (ofTxn j) ++ s.liveOps j) := by
  have hport (p : Port) : (s.setPort i p).liveOps j = s.liveOps j := rfl
  have hfirst (p : Port) (op : ModOp) :
      (((s.setPort i p).request op).liveOps j).Perm ([op].filter (ofTxn j) ++ s.liveOps j) :=
    request_liveOps _ op j
  cases g with
  | none => exact hfirst _ _
  | some g =>
    refine (request_liveOps _ _ j).trans (((hfirst _ _).append_left _).trans ?_)
    rw [← List.append_assoc]
    refine List.Perm.append_right _ (List.perm_append_comm.trans ?_)
    rw [← List.filter_append]
    rfl

theorem issuedOps_own (i : Initiator) (t : Txn) (f : FrameNo) (g : Option FrameNo) :
    (issuedOps i t f g).filter (ofTxn i) = issuedOps i t f g := by
  refine List.filter_eq_self.2 fun op hop => ?_
  cases g <;> simp_all [issuedOps, liveOp, ofTxn]
  rcases hop with rfl | rfl <;> simp

theorem issuedOps_other {i j : Initiator} (h : i ≠ j) (t : Txn) (f : FrameNo) (g : Option FrameNo) :
    (issuedOps i t f g).filter (ofTxn j) = [] := by
  refine List.filter_eq_nil_iff.2 fun op hop => ?_
  cases g <;> simp_all [issuedOps, liveOp, ofTxn]
  rcases hop with rfl | rfl <;> simp [h]

/-- R88: a transaction just steered agrees with the operations it is given by. -/
theorem issuedOps_matches (i : Initiator) {t : Txn} (f : FrameNo) {g : Option FrameNo}
    (hg : t.op.isWrite = false → g = none) :
    (TxnState.steered t f g (if g.isSome then 2 else 1)).matchesOps (issuedOps i t f g) := by
  refine ⟨?_, ?_, ?_, fun hr => by rw [hg hr]; rfl, fun op hop => ?_⟩
  · cases g <;> rfl
  · split <;> decide
  · split <;> decide
  · cases g <;> simp_all [issuedOps, liveOp]
    rcases hop with rfl | rfl <;> simp

/-- R88: with no operation under way for its initiator, a transaction checked and steered agrees with the
operations it has then. -/
theorem checkAndSteer_portLaws {s : State} {i : Initiator} (t : Txn) (hnone : s.liveOps i = [])
    (hothers : ∀ j, i ≠ j → (s.port j).txn.matchesOps (s.liveOps j)) :
    PortLaws (s.checkAndSteer i t) := by
  intro j
  rcases checkAndSteer_outcomes s i t with ⟨r, e⟩ | ⟨f, g, hg, e⟩ | ⟨o, fl, hw, -, e⟩
  · rw [e, State.answer, setPort_port]
    split
    · next h => exact h ▸ hnone
    · next h => exact hothers j h
  · have hops := issue_liveOps s i j t f g
    rw [e, issue_port]
    split
    · next h =>
      subst h
      rw [issuedOps_own, hnone, List.append_nil] at hops
      exact matchesOps_perm hops (issuedOps_matches i f hg)
    · next h =>
      rw [issuedOps_other h] at hops
      exact matchesOps_perm hops (hothers j h)
  · have hops : (s.hold i t o).liveOps j = s.liveOps j := by rw [hold_frame]; rfl
    rw [e, hold_port, hops]
    split
    · next h => exact h ▸ ⟨hnone, hw⟩
    · next h => exact hothers j h

/-- A transaction checked and steered is answered no data. -/
theorem checkAndSteer_answer {s : State} {i : Initiator} {t : Txn} {a : PortAnswer}
    (h : ((s.checkAndSteer i t).port i).answer = some a) (ha : a.data ≠ .none) :
    (s.port i).answer = some a := by
  rcases checkAndSteer_outcomes s i t with ⟨r, e⟩ | ⟨f, g, -, e⟩ | ⟨o, fl, -, -, e⟩
  · rw [e, State.answer, setPort_port, if_pos rfl] at h
    cases h
    exact absurd rfl ha
  · rwa [e, issue_port, if_pos rfl] at h
  · rwa [e, hold_port, if_pos rfl] at h

/-! ## Held writes taken anew -/

section
variable {s : State}

theorem discreet_retranslate (s : State) (i : Initiator) : Discreet s (s.retranslate i) := by
  by_cases hi : (s.port i).txn = .idle
  · rw [retranslate_notHeld (by simp [hi])]
    exact .refl s
  have hport (j : Initiator) (hj : i ≠ j) := retranslate_port_of_ne (s := s) hj
  have hanswer (a : PortAnswer) (h : ((s.retranslate i).port i).answer = some a) (ha : a.data ≠ .none) :
      (s.port i).answer = some a := by
    rcases retranslate_cases s i with ⟨-, e⟩ | ⟨t, e⟩
    · rwa [e] at h
    · rw [e] at h
      exact checkAndSteer_answer h ha
  have hframe := retranslate_frame s i
  generalize s.retranslate i = t at hport hanswer hframe
  refine ⟨by rw [hframe], by rw [hframe], by rw [hframe], by rw [hframe]; exact id, fun j a h ha => ?_,
    fun j hj => hport j fun e => hi (e ▸ hj)⟩
  by_cases hij : i = j
  · subst hij
    exact hanswer a h ha
  · rwa [hport j hij] at h

theorem retranslate_portLaws (h : PortLaws s) (i : Initiator) : PortLaws (s.retranslate i) := by
  by_cases hheld : ∀ t o, (s.port i).txn ≠ .held t o
  · rwa [retranslate_notHeld hheld]
  · push Not at hheld
    obtain ⟨t, o, ht⟩ := hheld
    have hi := h i
    rw [ht] at hi
    rw [retranslate_held ht]
    exact checkAndSteer_portLaws t hi.1 fun j _ => h j

theorem retranslateFold_portLaws (l : List Initiator) (h : PortLaws s) :
    PortLaws (l.foldl (fun t i => t.retranslate i) s) := by
  induction l generalizing s with
  | nil => exact h
  | cons i l ih => exact ih (retranslate_portLaws h i)

theorem discreet_retranslateFold (l : List Initiator) (s : State) :
    Discreet s (l.foldl (fun t i => t.retranslate i) s) := by
  induction l generalizing s with
  | nil => exact .refl s
  | cons i l ih => exact (discreet_retranslate s i).trans (ih _)

theorem discreet_testRequests (s : State) (fl : FrameLine) : Discreet s (s.testRequests fl) := by
  have e := testRequests_frame s fl
  exact .of_ports (by rw [e]) (by rw [e]) (by rw [e]) (by rw [e]) (sameTraffic_testRequests s fl).port

theorem releasePlace_portLaws (h : PortLaws s) (o : Owner) : PortLaws (s.releasePlace o) := by
  unfold State.releasePlace
  split
  · exact h
  · exact SameTraffic.portLaws (s := s) (.of_fields rfl rfl) h
  · have hempty : PortLaws (s.setPlace o .empty) := SameTraffic.portLaws (s := s) (.of_fields rfl rfl) h
    exact (sameTraffic_testRequests _ _).portLaws (retranslateFold_portLaws _ hempty)

theorem discreet_releasePlace (s : State) (o : Owner) : Discreet s (s.releasePlace o) := by
  unfold State.releasePlace
  split
  · exact .refl s
  · exact .of_ports rfl rfl rfl rfl fun _ => rfl
  · have hempty : Discreet s (s.setPlace o .empty) := .of_ports rfl rfl rfl rfl fun _ => rfl
    exact (hempty.trans (discreet_retranslateFold _ _)).trans (discreet_testRequests _ _)

end

/-! ## A transaction taken -/

theorem takeTransaction_cases (s : State) (i : Initiator) (a : PortAccess) (addr : Nat) :
    (∃ r, s.takeTransaction i a addr = (cleared s i).answer i r .none) ∨
    ∃ t, s.takeTransaction i a addr = (cleared s i).checkAndSteer i t := by
  unfold State.takeTransaction
  dsimp only
  split
  · exact .inl ⟨_, rfl⟩
  · split
    · exact .inl ⟨_, rfl⟩
    · exact .inr ⟨_, rfl⟩

theorem takeTransaction_portLaws {s : State} {i : Initiator} (h : PortLaws s)
    (hi : (s.port i).txn = .idle) (a : PortAccess) (addr : Nat) :
    PortLaws (s.takeTransaction i a addr) := by
  have hnone : s.liveOps i = [] := by
    have := h i
    rwa [hi] at this
  have hother (p : Port) (j : Initiator) (hj : i ≠ j) : ((s.setPort i p).port j).txn.matchesOps (s.liveOps j) := by
    rw [setPort_port, if_neg hj]
    exact h j
  rcases takeTransaction_cases s i a addr with ⟨r, e⟩ | ⟨t, e⟩
  · intro j
    rw [e, cleared, State.answer, setPort_setPort]
    by_cases hj : i = j
    · subst hj
      rw [setPort_port, if_pos rfl]
      exact hnone
    · exact hother _ j hj
  · rw [e]
    exact checkAndSteer_portLaws t hnone (hother _)

/-- R87, R88: a transaction taken is its initiator's alone, and is answered no data. -/
theorem takeTransaction_port {s : State} {i j : Initiator} (a : PortAccess) (addr : Nat) :
    (i ≠ j → (s.takeTransaction i a addr).port j = s.port j) ∧
    ∀ x, ((s.takeTransaction i a addr).port i).answer = some x → x.data = .none := by
  have hclear (h : i ≠ j) : (cleared s i).port j = s.port j := by rw [cleared, setPort_port, if_neg h]
  rcases takeTransaction_cases s i a addr with ⟨r, e⟩ | ⟨t, e⟩
  · rw [e, State.answer]
    refine ⟨fun h => by rw [setPort_port, if_neg h, hclear h], fun x hx => ?_⟩
    rw [setPort_port, if_pos rfl] at hx
    cases hx
    rfl
  · rw [e]
    refine ⟨fun h => by rw [checkAndSteer_port_of_ne t h, hclear h], fun x hx => ?_⟩
    by_contra hd
    have := checkAndSteer_answer hx hd
    rw [cleared, setPort_port, if_pos rfl] at this
    cases this

/-! ## A data-port operation that completes -/

section
variable {s : State} {k : Socket} {op : ModOp} {i : Initiator} {t : Txn} {f : FrameNo} {g : Option FrameNo}
  {n : Nat}

/-- R94, R102: the operations left once one of a transaction's has completed. -/
theorem completed_ops (h : PortLaws s) (hq : s.nextOp k = some op) (ho : ofTxn i op = true)
    (ht : (s.port i).txn = .steered t f g n) :
    ((s.complete k op).liveOps i).length + 1 = n ∧ op.act = t.op.act ∧
      ∀ x ∈ (s.complete k op).liveOps i, x ∈ s.liveOps i := by
  have hops := complete_liveOps hq i
  simp only [ho, List.filter_cons_of_pos, List.filter_nil] at hops
  obtain ⟨hlen, -, -, -, hall⟩ := ht ▸ h i
  refine ⟨by rw [← hlen, ← hops.length_eq]; rfl, (hall op (hops.mem_iff.1 (.head _))).1, fun x hx =>
    hops.mem_iff.1 (.tail _ hx)⟩

theorem completed_others (h : PortLaws s) (hq : s.nextOp k = some op) (hr : op.req = .dataPort i)
    {j : Initiator} (hj : i ≠ j) : (s.port j).txn.matchesOps ((s.complete k op).liveOps j) :=
  matchesOps_perm (complete_liveOps_other hq (by simp [ofTxn, hr, hj])) (h j)

/-- R88, R103: a transaction whose last operation completes is answered. -/
theorem answered_portLaws (h : PortLaws s) (hq : s.nextOp k = some op) (hr : op.req = .dataPort i)
    (hl : op.standing = .live) (ht : (s.port i).txn = .steered t f g n) (hn : n ≤ 1) {u : State}
    (hu : SameTraffic (s.complete k op) u) (r : PortResp) (d : PortData) : PortLaws (u.answer i r d) := by
  intro j
  have hops : (u.answer i r d).liveOps j = u.liveOps j := rfl
  rw [hops, State.answer, setPort_port]
  refine matchesOps_perm (hu.ops j) ?_
  split
  · next hj =>
    obtain ⟨hlen, -⟩ := completed_ops h hq (by simp [ofTxn, hr, hl]) ht
    exact hj ▸ List.length_eq_zero_iff.1 (by omega)
  · next hj =>
    have hport : (s.complete k op).port j = s.port j := by rw [complete_frame]; rfl
    rw [hu.port, hport]
    exact completed_others h hq hr hj

/-- R94: of a mirrored write one operation is left. -/
theorem oneLeft_portLaws (h : PortLaws s) (hq : s.nextOp k = some op) (hr : op.req = .dataPort i)
    (hl : op.standing = .live) (ht : (s.port i).txn = .steered t f g n) (hn : 1 < n) :
    PortLaws ((s.complete k op).setPort i
      { (s.complete k op).port i with txn := .steered t f g (n - 1) }) := by
  intro j
  have hops (p : Port) : ((s.complete k op).setPort i p).liveOps j = (s.complete k op).liveOps j := rfl
  rw [hops, setPort_port]
  split
  · next hj =>
    subst hj
    obtain ⟨hlen, -, hsub⟩ := completed_ops h hq (by simp [ofTxn, hr, hl]) ht
    obtain ⟨-, -, h2, hread, hall⟩ := ht ▸ h i
    exact ⟨by omega, by omega, by omega, fun hw => by have := hread hw; omega, fun x hx => hall x (hsub x hx)⟩
  · next hj =>
    have hport : (s.complete k op).port j = s.port j := by rw [complete_frame]; rfl
    rw [hport]
    exact completed_others h hq hr hj

theorem act_isWrite (x : TxnOp) : x.act.isWrite = x.isWrite := by
  cases x <;> rfl

/-- R88: a read has one operation outstanding. -/
theorem read_alone (h : PortLaws s) (hq : s.nextOp k = some op) (hr : op.req = .dataPort i)
    (hl : op.standing = .live) (ha : op.act = .read) (ht : (s.port i).txn = .steered t f g n) : n ≤ 1 := by
  obtain ⟨-, hact, -⟩ := completed_ops h hq (by simp [ofTxn, hr, hl]) ht
  obtain ⟨-, -, -, hread, -⟩ := ht ▸ h i
  refine (hread ?_).le
  rw [← act_isWrite, ← hact, ha]
  rfl

end

end Sys2Proof.Machine.WorkProofs
end

section
/-! The claim table across the events that take claims, ask for them and give them up: its laws but for the writes
about to be taken again and for the requests still to be tested on one line (R88, R95, R96, R98, R107, R111). -/

namespace Sys2Proof.Machine.WorkProofs

open Sys2Proof Sys2Proof.Machine Sys2Proof.Machine.Laws Sys2Proof.Machine.MapProofs
  Sys2Proof.Machine.FrameProofs Sys2Proof.Machine.ChannelProofs

/-! ## Places without their held writes -/

/-- A place without the writes held on it. -/
def bare : Place → Place
  | .claimed fl _ => .claimed fl []
  | p => p

theorem bare_claims (x : Place) (fl : FrameLine) : (bare x).claims fl = x.claims fl := by
  cases x <;> rfl

theorem bare_requests (x : Place) (fl : FrameLine) : (bare x).requests fl = x.requests fl := by
  cases x <;> rfl

theorem bare_empty {x : Place} : bare x = .empty ↔ x = .empty := by
  cases x <;> simp [bare]

theorem held_of_unclaimed {x : Place} (h : ∀ fl, x.claims fl = false) : x.held = [] := by
  cases x with
  | claimed fl held => simpa [Place.claims] using h fl
  | _ => rfl

theorem claimed_of_claims {x : Place} {fl : FrameLine} (h : x.claims fl = true) :
    ∃ held, x = .claimed fl held := by
  cases x <;> simp_all [Place.claims]

/-! ## Lines that are not free -/

section
variable {s t u : State} {fl gl : FrameLine}

theorem lineFree_iff_delays : s.lineFree fl = true ↔ (∀ p : Owner, (s.place p).claims fl = false) ∧
    ∀ op ∈ (s.arb (socketOf fl.frame)).waiting ++ (s.arb (socketOf fl.frame)).port,
      op.delaysClaims fl = false := by
  simp only [lineFree_iff, delaysClaims_false]

/-- R96: a line stays not free while its claim and the writes that delay one stay. -/
theorem busy_mono (hclaims : ∀ p, (s.place p).claims gl = true → (t.place p).claims gl = true)
    (hops : ∀ k, ∀ op ∈ (s.arb k).waiting ++ (s.arb k).port, op.delaysClaims gl = true →
      op ∈ (t.arb k).waiting ++ (t.arb k).port) (h : s.lineFree gl = false) : t.lineFree gl = false := by
  rw [← Bool.not_eq_true] at h ⊢
  refine mt (fun hfree => ?_) h
  obtain ⟨hnone, hdelay⟩ := lineFree_iff_delays.1 hfree
  refine lineFree_iff_delays.2 ⟨fun p => ?_, fun op hop => ?_⟩
  · exact Bool.eq_false_iff.2 fun hp => Bool.false_ne_true ((hnone p).symm.trans (hclaims p hp))
  · exact Bool.eq_false_iff.2 fun hd =>
      Bool.false_ne_true ((hdelay op (hops _ op hop hd)).symm.trans hd)

theorem request_keeps_ops (s : State) (op : ModOp) (k : Socket) :
    ∀ x ∈ (s.arb k).waiting ++ (s.arb k).port,
      x ∈ ((s.request op).arb k).waiting ++ ((s.request op).arb k).port := by
  intro x hx
  unfold State.request
  rw [setArb_arb]
  split
  · next hk =>
    subst hk
    simp only [List.mem_append] at hx ⊢
    tauto
  · exact hx

/-! ## Claims and requests that stand -/

/-- The claims, the requests and their order, and the scrubber's stage stand, and no line becomes free. -/
structure SameClaims (s t : State) : Prop where
  places : ∀ p, bare (t.place p) = bare (s.place p)
  order : t.reqOrder = s.reqOrder
  busy : ∀ gl, s.lineFree gl = false → t.lineFree gl = false
  stage : t.scrub.stage = s.scrub.stage

theorem SameClaims.trans (a : SameClaims s t) (b : SameClaims t u) : SameClaims s u :=
  ⟨fun p => (b.places p).trans (a.places p), b.order.trans a.order, fun gl h => b.busy gl (a.busy gl h),
    b.stage.trans a.stage⟩

theorem SameClaims.claims (e : SameClaims s t) (p : Owner) (gl : FrameLine) :
    (t.place p).claims gl = (s.place p).claims gl := by
  rw [← bare_claims, e.places, bare_claims]

theorem SameClaims.requests (e : SameClaims s t) (p : Owner) (gl : FrameLine) :
    (t.place p).requests gl = (s.place p).requests gl := by
  rw [← bare_requests, e.places, bare_requests]

/-- An event that takes no operation away from the arbiters and leaves the claim table. -/
theorem SameClaims.of_ops (hplaces : ∀ p, bare (t.place p) = bare (s.place p)) (horder : t.reqOrder = s.reqOrder)
    (hstage : t.scrub.stage = s.scrub.stage)
    (hops : ∀ k, ∀ op ∈ (s.arb k).waiting ++ (s.arb k).port, (∃ gl, op.delaysClaims gl = true) →
      op ∈ (t.arb k).waiting ++ (t.arb k).port) : SameClaims s t :=
  ⟨hplaces, horder, fun gl => busy_mono (fun p hp => by rwa [← bare_claims, hplaces, bare_claims])
    fun k op hop hd => hops k op hop ⟨gl, hd⟩, hstage⟩

theorem sameClaims_setPort (s : State) (i : Initiator) (p : Port) : SameClaims s (s.setPort i p) :=
  .of_ops (fun _ => rfl) rfl rfl fun _ _ h _ => h

theorem sameClaims_request (s : State) (op : ModOp) : SameClaims s (s.request op) :=
  .of_ops (fun _ => rfl) rfl rfl fun k x hx _ => request_keeps_ops s op k x hx

theorem sameClaims_issue (s : State) (i : Initiator) (t : Txn) (f : FrameNo) (g : Option FrameNo) :
    SameClaims s (s.issue i t f g) := by
  unfold State.issue
  cases g with
  | none => exact (sameClaims_setPort s i _).trans (sameClaims_request _ _)
  | some g =>
    exact ((sameClaims_setPort s i _).trans (sameClaims_request _ _)).trans (sameClaims_request _ _)

theorem hold_place {i : Initiator} {t : Txn} {o p : Owner} {held : List Initiator}
    (h : s.place o = .claimed fl held) :
    (s.hold i t o).place p = if o = p then .claimed fl (held ++ [i]) else s.place p := by
  have h' (q : Port) : (s.setPort i q).place o = .claimed fl held := h
  unfold State.hold
  dsimp only
  rw [h']
  exact setPlace_place _ o p _

theorem sameClaims_hold {i : Initiator} {t : Txn} {o : Owner} (h : (s.place o).claims fl = true) :
    SameClaims s (s.hold i t o) := by
  obtain ⟨held, ho⟩ := claimed_of_claims h
  refine .of_ops (fun p => ?_) (by rw [hold_frame]) (by rw [hold_frame]) fun k x hx _ => ?_
  · rw [hold_place ho]
    split
    · next e => rw [← e, ho]; rfl
    · rfl
  · rw [hold_frame]; exact hx

theorem sameClaims_checkAndSteer (s : State) (i : Initiator) (t : Txn) :
    SameClaims s (s.checkAndSteer i t) := by
  rcases checkAndSteer_outcomes s i t with ⟨r, e⟩ | ⟨f, g, -, e⟩ | ⟨o, fl, -, ho, e⟩
  · rw [e]; exact sameClaims_setPort s i _
  · rw [e]; exact sameClaims_issue ..
  · rw [e]; exact sameClaims_hold (claimOn_some ho)

theorem sameClaims_of_work (h : work t = work s) : SameClaims s t := by
  have hplaces : t.places = s.places := congrArg Work.places h
  have harbs : t.arbs = s.arbs := congrArg Work.arbs h
  refine .of_ops (fun p => by simp only [State.place, hplaces]) (congrArg Work.reqOrder h)
    (congrArg Work.stage h) fun k x hx _ => ?_
  simpa only [State.arb, harbs] using hx

/-- R65, R96: an operation of a line copy that is abandoned delays no claim. -/
theorem sameClaims_abandon (s : State) (c : ChanNo) (st : Standing) :
    SameClaims s { s with arbs := s.arbs.map fun a => a.abandon (.channel c) st } := by
  refine .of_ops (fun _ => rfl) rfl rfl fun k x hx hd => ?_
  obtain ⟨gl, hd⟩ := hd
  have hne : x.req ≠ .channel c := by
    intro hr
    simp [ModOp.delaysClaims, hr, Requester.isDataPort] at hd
  have harb : State.arb { s with arbs := s.arbs.map fun a => a.abandon (.channel c) st } k =
      (s.arb k).abandon (.channel c) st := by simp [State.arb]
  rw [harb]
  rcases List.mem_append.1 hx with hx | hx
  · exact List.mem_append_left _ (List.mem_filter.2 ⟨hx, by simpa using hne⟩)
  · exact List.mem_append_right _ (List.mem_map.2 ⟨x, hx, if_neg fun e => hne e.1⟩)

theorem sameClaims_grant {k : Socket} {op : ModOp} (h : op ∈ (s.arb k).waiting) :
    SameClaims s (s.setArb k ((s.arb k).grant op)) := by
  refine .of_ops (fun _ => rfl) rfl rfl fun l x hx _ => ?_
  rw [setArb_arb]
  split
  · next hk =>
    subst hk
    exact (grant_ops h).mem_iff.2 hx
  · exact hx

theorem complete_keeps_ops {k : Socket} {op : ModOp} (hq : s.nextOp k = some op) {l : Socket} {x : ModOp}
    (hx : x ∈ (s.arb l).waiting ++ (s.arb l).port) (hne : x ≠ op) :
    x ∈ ((s.complete k op).arb l).waiting ++ ((s.complete k op).arb l).port := by
  obtain ⟨rest, hport⟩ := port_of_nextOp hq
  rw [complete_arb, setArb_arb]
  split
  · next hk =>
    subst hk
    rw [hport] at hx ⊢
    simp only [List.mem_append, List.mem_cons, List.tail_cons] at hx ⊢
    exact hx.imp_right fun h => h.resolve_left hne
  · exact hx

/-- R96: the completion of an operation that delays no claim. -/
theorem sameClaims_complete {k : Socket} {op : ModOp} (hq : s.nextOp k = some op)
    (h : ∀ gl, op.delaysClaims gl = false) : SameClaims s (s.complete k op) := by
  refine .of_ops (fun p => by rw [complete_frame]; rfl) (by rw [complete_frame]) (by rw [complete_frame])
    fun l x hx hd => complete_keeps_ops hq hx ?_
  rintro rfl
  obtain ⟨gl, hd⟩ := hd
  rw [h] at hd
  cases hd

end

/-! ## Held writes that are listed -/

/-- R88, R95: each write held on a claim is listed there once, but the initiators `w` are on no list. -/
structure HeldBut (s : State) (w : List Initiator) : Prop where
  listed : ∀ i p, i ∉ w → ((s.port i).txn.waitsOn = some p ↔ i ∈ (s.place p).held)
  unlisted : ∀ i p, i ∈ w → i ∉ (s.place p).held
  once : ∀ p, (s.place p).held.Nodup

/-- R96: a request stands in the order and its line is not free, but on line `fl` for the owners `l`. -/
def WaitsBut (s : State) (fl : FrameLine) (l : List Owner) : Prop :=
  ∀ p gl, (s.place p).requests gl = true → p ∈ s.reqOrder ∧ (s.lineFree gl = false ∨ gl = fl ∧ p ∈ l)

/-- The laws of the claim table within an event: the writes of `w` are still to be taken again, and the requests
of `l` on line `fl` to be tested. -/
structure ClaimsBut (s : State) (w : List Initiator) (fl : FrameLine) (l : List Owner) : Prop where
  apart : claimsApart s
  held : HeldBut s w
  waits : WaitsBut s fl l
  scrub : s.scrub.stage = .none → s.place .scrubber = .empty

section
variable {s t : State} {w w' : List Initiator} {fl gl : FrameLine} {l : List Owner} {o : Owner} {i : Initiator}

theorem ClaimsBut.laws (h : ClaimsBut s [] fl []) : ClaimLaws s where
  apart := h.apart
  held i p := h.held.listed i p List.not_mem_nil
  once := h.held.once
  waits p gl hp := (h.waits p gl hp).imp_right fun hw => hw.resolve_right fun e => List.not_mem_nil e.2
  scrub := h.scrub

theorem claimsBut_of_laws (h : ClaimLaws s) (fl : FrameLine) : ClaimsBut s [] fl [] where
  apart := h.apart
  held := ⟨fun i p _ => h.held i p, nofun, h.once⟩
  waits p gl hp := (h.waits p gl hp).imp_right .inl
  scrub := h.scrub

/-- With a line not free no request on it is left to test. -/
theorem ClaimsBut.of_notFree (h : ClaimsBut s w fl l) (hf : s.lineFree fl = false) (l' : List Owner) :
    ClaimsBut s w fl l' :=
  ⟨h.apart, h.held, fun p gl hp => (h.waits p gl hp).imp_right fun hw =>
    .inl (hw.elim id fun e => by rw [e.1]; exact hf), h.scrub⟩

theorem ClaimsBut.of_same (e : SameClaims s t) (hheld : HeldBut t w') (h : ClaimsBut s w fl l) :
    ClaimsBut t w' fl l where
  apart o p gl ho hp := h.apart o p gl ((e.claims o gl).symm.trans ho) ((e.claims p gl).symm.trans hp)
  held := hheld
  waits p gl hp := by
    obtain ⟨hm, hw⟩ := h.waits p gl ((e.requests p gl).symm.trans hp)
    exact ⟨e.order ▸ hm, hw.imp_left (e.busy gl)⟩
  scrub hs := by
    have := h.scrub (e.stage.symm.trans hs)
    exact bare_empty.1 ((e.places _).trans (bare_empty.2 this))

theorem HeldBut.congr (hplaces : ∀ p, (t.place p).held = (s.place p).held)
    (hports : ∀ i, (t.port i).txn.waitsOn = (s.port i).txn.waitsOn) (h : HeldBut s w) : HeldBut t w :=
  ⟨fun i p hi => by rw [hports, hplaces]; exact h.listed i p hi,
    fun i p hi => by rw [hplaces]; exact h.unlisted i p hi, fun p => by rw [hplaces]; exact h.once p⟩

/-- An event that leaves the claims and the held writes. -/
theorem ClaimsBut.of_sameHeld (e : SameClaims s t) (hplaces : ∀ p, (t.place p).held = (s.place p).held)
    (hports : ∀ i, (t.port i).txn.waitsOn = (s.port i).txn.waitsOn) (h : ClaimsBut s w fl l) :
    ClaimsBut t w fl l :=
  h.of_same e (h.held.congr hplaces hports)

theorem claimLaws_of_sameHeld (e : SameClaims s t) (hplaces : ∀ p, (t.place p).held = (s.place p).held)
    (hports : ∀ i, (t.port i).txn.waitsOn = (s.port i).txn.waitsOn) (h : ClaimLaws s) : ClaimLaws t :=
  ((claimsBut_of_laws h ⟨0, 0⟩).of_sameHeld e hplaces hports).laws

/-! ## Held writes taken anew -/

/-- R88, R97: a transaction checked and steered is listed by the claim it is held on. -/
theorem HeldBut.checkAndSteer (h : HeldBut s (i :: w)) (hi : i ∉ w) (t : Txn) :
    HeldBut (s.checkAndSteer i t) w := by
  have hown (p : Owner) : i ∉ (s.place p).held := h.unlisted i p (.head _)
  have hfree {u : State} (hplaces : ∀ p, u.place p = s.place p)
      (hports : ∀ j, i ≠ j → u.port j = s.port j) (hnone : (u.port i).txn.waitsOn = none) : HeldBut u w := by
    refine ⟨fun j p hj => ?_, fun j p hj => ?_, fun p => by rw [hplaces]; exact h.once p⟩
    · rw [hplaces]
      by_cases hij : i = j
      · subst hij
        exact iff_of_false (by rw [hnone]; nofun) (hown p)
      · rw [hports j hij]
        exact h.listed j p (List.not_mem_cons_of_ne_of_not_mem (Ne.symm hij) hj)
    · rw [hplaces]
      exact h.unlisted j p (.tail _ hj)
  have hne (j : Initiator) (hj : i ≠ j) := checkAndSteer_port_of_ne (s := s) t hj
  rcases checkAndSteer_outcomes s i t with ⟨r, e⟩ | ⟨f, g, -, e⟩ | ⟨o, fl, -, ho, e⟩
  · rw [e] at hne ⊢
    exact hfree (fun _ => rfl) hne (by rw [State.answer, setPort_port, if_pos rfl]; rfl)
  · rw [e] at hne ⊢
    exact hfree (fun p => by rw [issue_frame]; rfl) hne (by rw [issue_port, if_pos rfl]; rfl)
  · rw [e] at hne ⊢
    obtain ⟨held, hplace⟩ := claimed_of_claims (claimOn_some ho)
    have hheld (p : Owner) : ((s.hold i t o).place p).held =
        if o = p then (s.place p).held ++ [i] else (s.place p).held := by
      rw [hold_place hplace]
      split
      · next e => rw [← e, hplace]; rfl
      · rfl
    refine ⟨fun j p hj => ?_, fun j p hj => ?_, fun p => ?_⟩
    · rw [hheld]
      by_cases hij : i = j
      · subst hij
        rw [hold_port, if_pos rfl]
        by_cases hop : o = p
        · simp [hop, TxnState.waitsOn]
        · simp [hop, TxnState.waitsOn, hown]
      · rw [hne j hij, h.listed j p (List.not_mem_cons_of_ne_of_not_mem (Ne.symm hij) hj)]
        split <;> simp [Ne.symm hij]
    · have hij : j ≠ i := fun e => hi (e ▸ hj)
      have := h.unlisted j p (.tail _ hj)
      rw [hheld]
      split <;> simp [hij, this]
    · rw [hheld]
      split
      · exact (h.once p).append (List.nodup_singleton i) (by simpa using hown p)
      · exact h.once p

theorem ClaimsBut.checkAndSteer (h : ClaimsBut s (i :: w) fl l) (hi : i ∉ w) (t : Txn) :
    ClaimsBut (s.checkAndSteer i t) w fl l :=
  h.of_same (sameClaims_checkAndSteer s i t) (h.held.checkAndSteer hi t)

theorem ClaimsBut.retranslate (h : ClaimsBut s (i :: w) fl l) (hi : i ∉ w) :
    ClaimsBut (s.retranslate i) w fl l := by
  rcases retranslate_cases s i with ⟨hnone, e⟩ | ⟨t, e⟩
  · rw [e]
    refine ⟨h.apart, ⟨fun j p hj => ?_, fun j p hj => h.held.unlisted j p (.tail _ hj), h.held.once⟩,
      h.waits, h.scrub⟩
    by_cases hij : j = i
    · subst hij
      exact iff_of_false (by rw [hnone]; nofun) (h.held.unlisted j p (.head _))
    · exact h.held.listed j p (List.not_mem_cons_of_ne_of_not_mem hij hj)
  · rw [e]
    exact h.checkAndSteer hi t

/-- R98: the writes given up are all listed again, or held no longer. -/
theorem ClaimsBut.retranslateFold (hw : w.Nodup) (h : ClaimsBut s w fl l) :
    ClaimsBut (w.foldl (fun t i => t.retranslate i) s) [] fl l := by
  induction w generalizing s with
  | nil => exact h
  | cons i w ih =>
    obtain ⟨hi, hw⟩ := List.nodup_cons.1 hw
    exact ih hw (h.retranslate hi)

/-! ## Places taken and asked for -/

theorem claimAndRead_place_eq (s : State) (o p : Owner) (gl : FrameLine) :
    (s.claimAndRead o gl).place p = if o = p then .claimed gl [] else s.place p := by
  split
  · next e => rw [← e, claimAndRead_place]
  · next e => exact claimAndRead_place_of_ne (Ne.symm e)

theorem claimAndRead_keeps_ops (s : State) (o : Owner) (gl : FrameLine) (k : Socket) :
    ∀ x ∈ (s.arb k).waiting ++ (s.arb k).port,
      x ∈ ((s.claimAndRead o gl).arb k).waiting ++ ((s.claimAndRead o gl).arb k).port := by
  cases o with
  | channel c => exact request_keeps_ops ((s.unorder (.channel c)).setPlace (.channel c) _) _ k
  | scrubber =>
    exact request_keeps_ops { (s.unorder .scrubber).setPlace .scrubber (.claimed gl []) with
      scrub := { s.scrub with stage := .reading } } _ k

theorem claimAndRead_order (s : State) (o : Owner) (gl : FrameLine) :
    (s.claimAndRead o gl).reqOrder = s.reqOrder.erase o := by
  cases o <;> rfl

theorem claimAndRead_stage (s : State) (o : Owner) (gl : FrameLine)
    (h : (s.claimAndRead o gl).scrub.stage = .none) : o ≠ .scrubber ∧ s.scrub.stage = .none := by
  cases o with
  | channel c => exact ⟨nofun, h⟩
  | scrubber => cases h

theorem place_held_eq (ho : ∀ gl, (s.place o).claims gl = false) {x : Place} (hx : x.held = [])
    (ht : ∀ p, t.place p = if o = p then x else s.place p) (p : Owner) :
    (t.place p).held = (s.place p).held := by
  rw [ht]
  split
  · next e => rw [← e, hx, held_of_unclaimed ho]
  · rfl

/-- R96: a claim granted on a free line keeps the laws. -/
theorem ClaimsBut.claimAndRead (h : ClaimsBut s w fl l) (hf : s.lineFree gl = true)
    (ho : ∀ gl, (s.place o).claims gl = false) : ClaimsBut (s.claimAndRead o gl) w fl l := by
  have hplace := fun p => claimAndRead_place_eq s o p gl
  have hnone := (lineFree_iff_delays.1 hf).1
  refine ⟨fun p q hl hp hq => ?_, ?_, fun p hl hp => ?_, fun hs => ?_⟩
  · rw [hplace] at hp hq
    split at hp
    · next ep =>
      split at hq
      · next eq => rw [← ep, eq]
      · have hgl : gl = hl := by simpa [Place.claims] using hp
        rw [← hgl, hnone] at hq
        cases hq
    · split at hq
      · have hgl : gl = hl := by simpa [Place.claims] using hq
        rw [← hgl, hnone] at hp
        cases hp
      · exact h.apart p q hl hp hq
  · refine h.held.congr (place_held_eq ho rfl hplace) fun i => ?_
    rw [claimAndRead_frame]
    rfl
  · rw [hplace] at hp
    split at hp
    · cases hp
    · next hne =>
      obtain ⟨hm, hw⟩ := h.waits p hl hp
      refine ⟨by rw [claimAndRead_order]; exact (List.mem_erase_of_ne (Ne.symm hne)).2 hm, hw.imp_left ?_⟩
      refine busy_mono (fun q hq => ?_) fun k x hx _ => claimAndRead_keeps_ops s o gl k x hx
      rw [hplace, if_neg]
      · exact hq
      · rintro rfl
        rw [ho] at hq
        cases hq
  · obtain ⟨hne, hstage⟩ := claimAndRead_stage s o gl hs
    rw [hplace, if_neg hne]
    exact h.scrub hstage

/-- R96: a claim asked for on a line that is not free keeps the laws. -/
theorem ClaimsBut.askClaim (h : ClaimsBut s w fl l) (hf : s.lineFree gl = false)
    (ho : ∀ gl, (s.place o).claims gl = false) (hstage : o = .scrubber → s.scrub.stage ≠ .none) :
    ClaimsBut (s.askClaim o gl) w fl l := by
  have hplace (p : Owner) : (s.askClaim o gl).place p = if o = p then .requested gl else s.place p :=
    setPlace_place s o p _
  have horder : (s.askClaim o gl).reqOrder = s.reqOrder ++ [o] := rfl
  have hclaims (p : Owner) (hl : FrameLine) :
      ((s.askClaim o gl).place p).claims hl = (s.place p).claims hl := by
    rw [hplace]
    split
    · next e => rw [← e, ho]; rfl
    · rfl
  have hbusy (hl : FrameLine) : s.lineFree hl = false → (s.askClaim o gl).lineFree hl = false :=
    busy_mono (fun p hp => (hclaims p hl).trans hp) fun _ _ hx _ => hx
  refine ⟨fun p q hl hp hq => h.apart p q hl ((hclaims p hl).symm.trans hp) ((hclaims q hl).symm.trans hq),
    h.held.congr (place_held_eq ho rfl hplace) fun _ => rfl, fun p hl hp => ?_, fun hs => ?_⟩
  · rw [hplace] at hp
    rw [horder]
    split at hp
    · next e =>
      have hgl : gl = hl := by simpa [Place.requests] using hp
      exact ⟨by simp [e], .inl (hbusy hl (hgl ▸ hf))⟩
    · obtain ⟨hm, hw⟩ := h.waits p hl hp
      exact ⟨List.mem_append_left _ hm, hw.imp_left (hbusy hl)⟩
  · rw [hplace, if_neg fun e => hstage e hs]
    exact h.scrub hs

/-- R96: a claim asked for, and tested at once, keeps the laws; the line is not the one whose requests are still to
be tested. -/
theorem ClaimsBut.askAndTest (h : ClaimsBut s w fl l) (ho : s.place o = .empty)
    (hstage : o = .scrubber → s.scrub.stage ≠ .none) (hline : gl = fl → l = []) :
    ClaimsBut (s.askAndTest o gl) w fl l := by
  have hclaims (hl : FrameLine) : (s.place o).claims hl = false := by rw [ho]; rfl
  unfold State.askAndTest
  split
  · next hb => exact h.claimAndRead (Bool.and_eq_true_iff.1 hb).1 hclaims
  · next hb =>
    refine h.askClaim ?_ hclaims hstage
    refine Bool.eq_false_iff.2 fun hf => hb ?_
    rw [hf, Bool.true_and, Bool.not_eq_true', List.any_eq_false]
    intro p _ hp
    rcases (h.waits p gl hp).2 with hbusy | ⟨hgl, hmem⟩
    · rw [hf] at hbusy
      cases hbusy
    · rw [hline hgl] at hmem
      cases hmem

/-! ## Scrubs begun and ended -/

theorem ClaimsBut.scrubber {p : Scrubber} (h : ClaimsBut s w fl l)
    (hp : p.stage = .none → s.place .scrubber = .empty) : ClaimsBut { s with scrub := p } w fl l :=
  ⟨h.apart, HeldBut.congr (s := s) (fun _ => rfl) (fun _ => rfl) h.held, h.waits, hp⟩

/-- R110, R111: a scrub that is chosen is CLAIMING, and asks for the claim on a line of a frame in use. -/
theorem chooseScrub_asks (s : State) :
    (∃ p, s.chooseScrub = { s with scrub := p }) ∨
    ∃ p gl, p.stage = .claiming ∧ (s.frame gl.frame).state.inUse = true ∧
      s.chooseScrub = ({ s with scrub := p } : State).askAndTest .scrubber gl := by
  unfold State.chooseScrub
  split
  · next hu => exact .inr ⟨_, ⟨s.scrub.frame, s.scrub.line⟩, rfl, hu, rfl⟩
  · split
    · next hsearch => exact .inr ⟨_, _, rfl, searchScrub_inUse hsearch, rfl⟩
    · exact .inl ⟨_, rfl⟩

/-- R110, R111: a scrub that begins keeps the laws. -/
theorem ClaimsBut.chooseScrub (h : ClaimsBut s w fl l) (hs : s.place .scrubber = .empty)
    (hline : (s.frame fl.frame).state.inUse = true → l = []) : ClaimsBut s.chooseScrub w fl l := by
  rcases chooseScrub_asks s with ⟨p, e⟩ | ⟨p, gl, hp, hu, e⟩
  · rw [e]
    exact h.scrubber fun _ => hs
  · rw [e]
    exact (h.scrubber fun _ => hs).askAndTest hs (fun _ => by rw [hp]; nofun) fun e => hline (e ▸ hu)

/-- R115: the end of a scrub that holds no claim, with what it begins next, keeps the laws. -/
theorem ClaimsBut.finishScrub (h : ClaimsBut s w fl l) (hs : s.place .scrubber = .empty)
    (hline : (s.frame fl.frame).state.inUse = true → l = []) : ClaimsBut s.finishScrub w fl l := by
  unfold State.finishScrub
  dsimp only
  split
  · exact (h.scrubber fun _ => hs).chooseScrub hs hline
  · exact h.scrubber fun _ => hs

theorem ClaimsBut.withdraw (h : ClaimsBut s w fl l) (ho : ∀ gl, (s.place o).claims gl = false) :
    ClaimsBut ((s.unorder o).setPlace o .empty) w fl l := by
  have hplace (p : Owner) : ((s.unorder o).setPlace o .empty).place p =
      if o = p then .empty else s.place p := setPlace_place _ o p _
  have hclaims (p : Owner) (hl : FrameLine) :
      (((s.unorder o).setPlace o .empty).place p).claims hl = (s.place p).claims hl := by
    rw [hplace]
    split
    · next e => rw [← e, ho]; rfl
    · rfl
  refine ⟨fun p q hl hp hq => h.apart p q hl ((hclaims p hl).symm.trans hp) ((hclaims q hl).symm.trans hq),
    h.held.congr (place_held_eq ho rfl hplace) fun _ => rfl, fun p hl hp => ?_, fun hs => ?_⟩
  · rw [hplace] at hp
    split at hp
    · cases hp
    · next hne =>
      obtain ⟨hm, hw⟩ := h.waits p hl hp
      exact ⟨(List.mem_erase_of_ne (Ne.symm hne)).2 hm, hw.imp_left
        (busy_mono (fun q hq => (hclaims q hl).trans hq) fun _ _ hx _ => hx)⟩
  · rw [hplace]
    split
    · rfl
    · exact h.scrub hs

/-! ## Requests tested -/

/-- R96, R111: a request tested is granted, ends, or stands on a line not free. -/
theorem ClaimsBut.testOne (h : ClaimsBut s [] fl (o :: l)) : ClaimsBut (s.testOne fl o) [] fl l := by
  have hdrop {u : State} (hu : ClaimsBut u [] fl (o :: l)) (hn : (u.place o).requests fl = false) :
      ClaimsBut u [] fl l := by
    refine ⟨hu.apart, hu.held, fun p gl hp => (hu.waits p gl hp).imp_right fun hw => hw.imp_right ?_, hu.scrub⟩
    rintro ⟨rfl, hm⟩
    refine ⟨rfl, (List.mem_cons.1 hm).resolve_left ?_⟩
    rintro rfl
    rw [hn] at hp
    cases hp
  cases hr : (s.place o).requests fl with
  | false =>
    rw [testOne_notRequested hr]
    exact hdrop h hr
  | true =>
    cases hf : s.lineFree fl with
    | false =>
      rw [testOne_notFree hf]
      exact h.of_notFree hf l
    | true =>
      have hplace := requests_iff.1 hr
      have hclaims (gl : FrameLine) : (s.place o).claims gl = false := by rw [hplace]; rfl
      have hread : ClaimsBut (s.claimAndRead o fl) [] fl l :=
        (h.claimAndRead hf hclaims).of_notFree (claimAndRead_notFree s o fl) l
      rw [testOne_granted hplace hf]
      cases o with
      | channel c => exact hread
      | scrubber =>
        cases hu : (s.frame fl.frame).state.inUse with
        | true => rw [grantClaim_reads (.inr hu)]; exact hread
        | false =>
          rw [grantClaim_ends hu]
          refine (hdrop (h.withdraw hclaims) ?_).finishScrub (setPlace_place_self _ _ _) fun hu' => ?_
          · rw [setPlace_place_self]; rfl
          · exact nomatch hu.symm.trans hu'

theorem ClaimsBut.testFold (h : ClaimsBut s [] fl l) :
    ClaimLaws (l.foldl (fun t o => t.testOne fl o) s) := by
  induction l generalizing s with
  | nil => exact h.laws
  | cons o l ih => exact ih h.testOne

theorem ClaimsBut.testRequests (h : ClaimsBut s [] fl s.reqOrder) : ClaimLaws (s.testRequests fl) :=
  h.testFold

/-! ## Places given up -/

/-- R98: once a claim is given up the writes held on it are to be taken again, and the requests on its line to be
tested. -/
theorem givenUp_claims {held : List Initiator} (h : ClaimLaws s) (ho : s.place o = .claimed fl held) :
    ClaimsBut (s.setPlace o .empty) held fl s.reqOrder := by
  have hplace (p : Owner) : (s.setPlace o .empty).place p = if o = p then .empty else s.place p :=
    setPlace_place s o p _
  have hmem (i : Initiator) : i ∈ held ↔ (s.port i).txn.waitsOn = some o := by
    rw [h.held, ho]; rfl
  have hclaims (p : Owner) (hl : FrameLine) (hp : ((s.setPlace o .empty).place p).claims hl = true) :
      (s.place p).claims hl = true := by
    rw [hplace] at hp
    split at hp
    · cases hp
    · exact hp
  refine ⟨fun p q hl hp hq => h.apart p q hl (hclaims p hl hp) (hclaims q hl hq),
    ⟨fun i p hi => ?_, fun i p hi => ?_, fun p => ?_⟩, fun p hl hp => ?_, fun hs => ?_⟩
  · rw [hplace]
    split
    · next e => exact iff_of_false (fun hw => hi ((hmem i).2 (e ▸ hw))) List.not_mem_nil
    · exact h.held i p
  · rw [hplace]
    split
    · exact List.not_mem_nil
    · next e =>
      rw [← h.held, (hmem i).1 hi]
      exact fun hop => e (Option.some.inj hop)
  · rw [hplace]
    split
    · exact List.nodup_nil
    · exact h.once p
  · rw [hplace] at hp
    split at hp
    · cases hp
    · obtain ⟨hm, hbusy⟩ := h.waits p hl hp
      refine ⟨hm, ?_⟩
      by_cases hfl : hl = fl
      · exact .inr ⟨hfl, hm⟩
      · refine .inl (busy_mono (s := s) (fun q hq => ?_) (fun _ _ hx _ => hx) hbusy)
        rw [hplace, if_neg]
        · exact hq
        · rintro rfl
          rw [ho] at hq
          exact hfl (beq_iff_eq.1 hq).symm
  · rw [hplace]
    split
    · rfl
    · exact h.scrub hs

/-- R65, R98: a place given up keeps the laws. -/
theorem releasePlace_claimLaws (h : ClaimLaws s) (o : Owner) : ClaimLaws (s.releasePlace o) := by
  cases ho : s.place o with
  | empty => rwa [releasePlace_empty ho]
  | requested fl =>
    rw [releasePlace_requested ho]
    exact ((claimsBut_of_laws h fl).withdraw fun gl => by rw [ho]; rfl).laws
  | claimed fl held =>
    have hnodup : held.Nodup := by
      have := h.once o
      rwa [ho] at this
    have horder (u : State) : (held.foldl (fun t i => t.retranslate i) u).reqOrder = u.reqOrder := by
      rw [retranslateFold_frame]
    rw [releasePlace_claimed ho]
    refine ClaimsBut.testRequests ?_
    rw [horder]
    exact (givenUp_claims h ho).retranslateFold hnodup

/-- R115: a scrubber's place given up is EMPTY. -/
theorem releasePlace_scrubber_empty (s : State) : (s.releasePlace .scrubber).place .scrubber = .empty := by
  unfold State.releasePlace
  split
  · assumption
  · exact setPlace_place_self _ _ _
  · exact (testRequests_keeps_scrubber (retranslateFold_keeps_empty _ (setPlace_place_self _ _ _))).1

theorem endScrub_claimLaws (h : ClaimLaws s) : ClaimLaws s.endScrub :=
  ((claimsBut_of_laws (releasePlace_claimLaws h .scrubber) ⟨0, 0⟩).finishScrub
    (releasePlace_scrubber_empty s) fun _ => rfl).laws

theorem chooseScrub_claimLaws (h : ClaimLaws s) (hs : s.place .scrubber = .empty) : ClaimLaws s.chooseScrub :=
  ((claimsBut_of_laws h ⟨0, 0⟩).chooseScrub hs fun _ => rfl).laws

theorem beginCopy_claimLaws {c : ChanNo} (h : ClaimLaws s) (hc : s.place (.channel c) = .empty) :
    ClaimLaws (s.beginCopy c) := by
  unfold State.beginCopy
  split
  · exact ((claimsBut_of_laws h ⟨0, 0⟩).askAndTest hc nofun fun _ => rfl).laws
  · exact h

/-! ## Transactions taken and operations completed -/

/-- R88, R97: a transaction taken from an initiator with none keeps the laws. -/
theorem takeTransaction_claimLaws (h : ClaimLaws s) (hi : (s.port i).txn = .idle) (a : PortAccess) (addr : Nat) :
    ClaimLaws (s.takeTransaction i a addr) := by
  have hidle (p : Owner) : i ∉ (s.place p).held := by
    rw [← h.held, hi]; nofun
  have hcleared : ClaimsBut (cleared s i) [i] ⟨0, 0⟩ [] := by
    refine (claimsBut_of_laws h _).of_same (sameClaims_setPort s i _) ⟨fun j p hj => ?_, fun j p hj => ?_, h.once⟩
    · have hne : i ≠ j := fun e => hj (by simp [e])
      rw [cleared, setPort_port, if_neg hne]
      exact h.held j p
    · rw [List.mem_singleton.1 hj]
      exact hidle p
  rcases takeTransaction_cases s i a addr with ⟨r, e⟩ | ⟨t, e⟩
  · rw [e, cleared, State.answer, setPort_setPort]
    refine claimLaws_of_sameHeld (sameClaims_setPort s i _) (fun _ => rfl) (fun j => ?_) h
    rw [setPort_port]
    split
    · next hj => rw [← hj, hi]
    · rfl
  · rw [e]
    exact (hcleared.checkAndSteer List.not_mem_nil t).laws

/-- R96: an operation completed leaves the requests on its line to be tested. -/
theorem complete_claimsBut {k : Socket} {op : ModOp} (h : ClaimLaws s) (hq : s.nextOp k = some op) :
    ClaimsBut (s.complete k op) [] op.fl (s.complete k op).reqOrder := by
  have hplace (p : Owner) : (s.complete k op).place p = s.place p := by rw [complete_frame]; rfl
  have hport (i : Initiator) : (s.complete k op).port i = s.port i := by rw [complete_frame]; rfl
  have horder : (s.complete k op).reqOrder = s.reqOrder := by rw [complete_frame]
  have hstage : (s.complete k op).scrub = s.scrub := by rw [complete_frame]
  refine ⟨fun p q hl => by rw [hplace, hplace]; exact h.apart p q hl,
    ⟨fun i p _ => by rw [hplace, hport]; exact h.held i p, nofun, fun p => by rw [hplace]; exact h.once p⟩,
    fun p hl hp => ?_, by rw [hstage, hplace]; exact h.scrub⟩
  rw [hplace] at hp
  rw [horder]
  obtain ⟨hm, hbusy⟩ := h.waits p hl hp
  refine ⟨hm, ?_⟩
  by_cases hfl : hl = op.fl
  · exact .inr ⟨hfl, hm⟩
  · refine .inl (busy_mono (fun q hq => by rwa [hplace]) (fun l x hx hd => complete_keeps_ops hq hx ?_) hbusy)
    rintro rfl
    simp [ModOp.delaysClaims, Ne.symm hfl] at hd

theorem complete_claimLaws {k : Socket} {op : ModOp} (h : ClaimLaws s) (hq : s.nextOp k = some op)
    (hd : ∀ gl, op.delaysClaims gl = false) : ClaimLaws (s.complete k op) :=
  claimLaws_of_sameHeld (sameClaims_complete hq hd) (fun p => by rw [complete_frame]; rfl)
    (fun i => by rw [complete_frame]; rfl) h

end

end Sys2Proof.Machine.WorkProofs
end

section
/-! The events at the data port, power and the warm restart: what each does to the laws of claims and transactions, to
the answers and to FAULT (R96, R98 to R104, R115, R122, R134, R135). -/

namespace Sys2Proof.Machine.WorkProofs

open Sys2Proof Sys2Proof.Machine Sys2Proof.Machine.Laws Sys2Proof.Machine.MapProofs
  Sys2Proof.Machine.FrameProofs Sys2Proof.Machine.ChannelProofs

/-! ## Events in good order -/

/-- An event that keeps the laws of the claim table and of the transactions, and is discreet. -/
structure Orderly (s t : State) : Prop where
  claims : ClaimLaws s → ClaimLaws t
  ops : PortLaws s → PortLaws t
  discreet : Discreet s t

section
variable {s t u : State}

theorem Orderly.refl (s : State) : Orderly s s := ⟨id, id, .refl s⟩

theorem Orderly.trans (a : Orderly s t) (b : Orderly t u) : Orderly s u :=
  ⟨fun h => b.claims (a.claims h), fun h => b.ops (a.ops h), a.discreet.trans b.discreet⟩

theorem place_of_work (h : work t = work s) (o : Owner) : t.place o = s.place o := by
  have hplaces : t.places = s.places := congrArg Work.places h
  rw [State.place, State.place, hplaces]

theorem orderly_of_work (h : work t = work s) : Orderly s t :=
  ⟨claimLaws_of_sameHeld (sameClaims_of_work h) (fun p => by rw [place_of_work h])
    fun i => by rw [(sameTraffic_of_work h).port], (sameTraffic_of_work h).portLaws, discreet_of_work h⟩

/-- An event that changes the arbiters alone, and no operation there that transactions or claims wait for. -/
theorem orderly_of_arbs {a : Vector Arbiter 4} (ht : t = { s with arbs := a }) (e : SameTraffic s t)
    (c : SameClaims s t) : Orderly s t := by
  subst ht
  exact ⟨claimLaws_of_sameHeld c (fun _ => rfl) fun _ => rfl, e.portLaws, .of_ports rfl rfl rfl rfl fun _ => rfl⟩

/-- R105: an operation of no transaction is requested. -/
theorem orderly_request (s : State) {op : ModOp} (h : op.req.isDataPort = false) : Orderly s (s.request op) :=
  orderly_of_arbs rfl (sameTraffic_request s h) (sameClaims_request s op)

theorem discreet_complete (s : State) (k : Socket) (op : ModOp) : Discreet s (s.complete k op) :=
  .of_ports (by rw [complete_frame]) (by rw [complete_frame]) (by rw [complete_frame]) (by rw [complete_frame])
    fun i => by rw [complete_frame]; rfl

/-- R99: an operation of a channel, the scrubber or the walk completes that a claim does not wait out. -/
theorem orderly_complete {k : Socket} {op : ModOp} (hq : s.nextOp k = some op)
    (hr : op.req.isDataPort = false) (hl : op.standing = .live) : Orderly s (s.complete k op) :=
  ⟨fun h => complete_claimLaws h hq fun gl => by simp [ModOp.delaysClaims, hr, hl],
    (sameTraffic_complete hq (.inl hr)).portLaws, discreet_complete s k op⟩

theorem orderly_releasePlace (s : State) (o : Owner) : Orderly s (s.releasePlace o) :=
  ⟨fun h => releasePlace_claimLaws h o, fun h => releasePlace_portLaws h o, discreet_releasePlace s o⟩

theorem discreet_chooseScrub (s : State) : Discreet s s.chooseScrub := by
  have e := chooseScrub_frame s
  exact .of_ports (by rw [e]) (by rw [e]) (by rw [e]) (by rw [e]) (sameTraffic_chooseScrub s).port

theorem discreet_finishScrub (s : State) : Discreet s s.finishScrub := by
  have e := finishScrub_frame s
  exact .of_ports (by rw [e]) (by rw [e]) (by rw [e]) (by rw [e]) (sameTraffic_finishScrub s).port

theorem discreet_beginCopy (s : State) (c : ChanNo) : Discreet s (s.beginCopy c) := by
  have e := beginCopy_frame s c
  exact .of_ports (by rw [e]) (by rw [e]) (by rw [e]) (by rw [e]) (sameTraffic_beginCopy s c).port

theorem discreet_grantClaim (s : State) (o : Owner) (fl : FrameLine) : Discreet s (s.grantClaim o fl) := by
  have e := grantClaim_frame s o fl
  exact .of_ports (by rw [e]) (by rw [e]) (by rw [e]) (by rw [e]) (sameTraffic_grantClaim s o fl).port

/-- R115: the end of a scrub. -/
theorem orderly_endScrub (s : State) : Orderly s s.endScrub :=
  ⟨endScrub_claimLaws, fun h => (sameTraffic_finishScrub _).portLaws (releasePlace_portLaws h _),
    (discreet_releasePlace s _).trans (discreet_finishScrub _)⟩

/-- R55: a channel with no copy in flight asks for its claim. -/
theorem orderly_beginCopy {c : ChanNo} (hc : s.place (.channel c) = .empty) : Orderly s (s.beginCopy c) :=
  ⟨fun h => beginCopy_claimLaws h hc, (sameTraffic_beginCopy s c).portLaws, discreet_beginCopy s c⟩

/-- R63 to R66: an abort. -/
theorem orderly_abortChannel (s : State) (c : ChanNo) (cause : LastOutcome) :
    Orderly s (s.abortChannel c cause) :=
  ((orderly_of_work (work_abortRecords s c cause)).trans
    (orderly_of_arbs rfl (sameTraffic_abandon _ c _) (sameClaims_abandon _ c _))).trans
    (orderly_releasePlace _ _)

end

/-! ## What every command does -/

/-- What a row's command does to the answers, the waiting commands, FAULT, and the laws of claims and
transactions. -/
structure Served (c : Instr) (s t : State) : Prop where
  claims : ClaimLaws s → ClaimLaws t
  ops : PortLaws s → PortLaws t
  pending : t.pending = s.pending
  fault : s.fault = false → t.fault = true →
    (∃ k, c = .dataPortReadOutcome k .uncorrectable) ∨ ∃ a v, c = .faultEnableWrite a v
  data : ∀ i a, (t.port i).answer = some a → a.data ≠ .none → (s.port i).answer ≠ some a →
    a.resp = .okay ∧ ∃ k o, c = .dataPortReadOutcome k o ∧ o ≠ .uncorrectable
  idle : ∀ i, (s.port i).txn = .idle → (∀ a addr, c ≠ .dataPortTransaction i a addr) →
    isPowerEvent c = false → t.port i = s.port i

/-- R170: the flag UNCORRECTABLE is not RESPONSE_READY. -/
theorem fault_eq (s : State) :
    s.fault = (s.powered && s.flags.getLsbD Flag.uncorrectable.bit && s.faultEnable) := by
  have hready : Flag.responseReady.mask.getLsbD Flag.uncorrectable.bit = false := rfl
  unfold State.fault State.flagSet State.events
  rw [BitVec.getLsbD_or]
  split <;> simp [hready]

theorem Discreet.fault {s t : State} (e : Discreet s t) (h : t.fault = true) : s.fault = true := by
  rw [fault_eq, Bool.and_eq_true, Bool.and_eq_true] at h ⊢
  obtain ⟨⟨hp, hl⟩, he⟩ := h
  exact ⟨⟨e.powered.symm.trans hp, e.lost hl⟩, e.enable.symm.trans he⟩

theorem Orderly.served {c : Instr} {s t : State} (e : Orderly s t) : Served c s t where
  claims := e.claims
  ops := e.ops
  pending := e.discreet.pending
  fault h ht := by rw [e.discreet.fault ht] at h; cases h
  data i a h ha hn := absurd (e.discreet.data i a h ha) hn
  idle i h _ _ := e.discreet.idle i h

theorem served_refl {c : Instr} {s : State} : Served c s s := (Orderly.refl s).served

theorem served_of_work {c : Instr} {s t : State} (h : work t = work s) : Served c s t :=
  (orderly_of_work h).served

section
variable {c : Instr} (s : State)

theorem served_whenOn {t : State} (h : Served c s t) : Served c s (s.whenOn t) := by
  unfold State.whenOn
  split
  · exact h
  · exact served_refl

/-! ## Power and the warm restart -/

/-- R122: a part right after power-on, or without power, has FAULT off. -/
theorem served_power {t : State} (hc : isPowerEvent c = true) (claims : ClaimLaws t) (ops : PortLaws t)
    (pending : t.pending = s.pending) (enable : t.faultEnable = false)
    (answer : ∀ i, (t.port i).answer = none) : Served c s t where
  claims _ := claims
  ops _ := ops
  pending := pending
  fault _ h := by rw [fault_eq, enable, Bool.and_false] at h; cases h
  data i a h := by rw [answer] at h; cases h
  idle _ _ _ h := by rw [hc] at h; cases h

theorem served_powerOn (codes : PresenceCodes) :
    Served (.powerOnReset codes) s (State.powerOn codes s.pending s.warmPin s.modules) :=
  served_power s rfl (powerOn_claimLaws ..) (powerOn_portLaws _ _ _ _) rfl rfl fun i => by
    rw [powerOn_port]

theorem served_powerOff : Served .powerGoodFall s s.powerOff := by
  have hclaims := powerOn_claimLaws (Vector.replicate 4 0) s.pending s.warmPin s.modules
  have hports := powerOn_portLaws (Vector.replicate 4 0) s.pending s.warmPin s.modules
  exact served_power s rfl ⟨hclaims.apart, hclaims.held, hclaims.once, hclaims.waits, hclaims.scrub⟩ hports rfl
    rfl fun i => congrArg Port.answer (powerOn_port (Vector.replicate 4 0) s.pending s.warmPin s.modules i)

theorem claimLaws_of_empty {t : State} (hplace : ∀ p, t.place p = .empty)
    (hports : ∀ i, (t.port i).txn.waitsOn = none) : ClaimLaws t where
  apart o p fl h := by rw [hplace] at h; cases h
  held i o := by rw [hports, hplace]; exact iff_of_false nofun nofun
  once o := by rw [hplace]; exact List.nodup_nil
  waits o fl h := by rw [hplace] at h; cases h
  scrub _ := hplace _

/-- R104: no transaction is outstanding once a warm restart has begun. -/
theorem restart_txn (p : Port) : p.restart.txn = .idle := by
  unfold Port.restart
  split
  · assumption
  · rfl

theorem cutWork_port (i : Initiator) : (cutWork s).port i = (s.port i).restart := by
  simp [cutWork, State.port]

theorem cutWork_place (p : Owner) : (cutWork s).place p = .empty := by
  simp [cutWork, State.place]

/-- R104, R119, R135: the data port and the claim table are cleared, and no operation is live. -/
theorem orderly_cutWork : Orderly s (cutWork s) where
  claims _ := claimLaws_of_empty (cutWork_place s) fun i => by rw [cutWork_port, restart_txn]; rfl
  ops _ i := by
    rw [cutWork_port, restart_txn]
    refine List.flatMap_eq_nil_iff.2 fun k _ => List.filter_eq_nil_iff.2 fun op hop => ?_
    have harb : (cutWork s).arb k = (s.arb k).restart := by simp [cutWork, State.arb]
    rw [harb] at hop
    simp [restart_port_not_live (s.arb k) op hop]
  discreet := by
    refine ⟨rfl, rfl, rfl, id, fun i a h ha => ?_, fun i hi => ?_⟩
    · rw [cutWork_port] at h
      unfold Port.restart at h
      split at h
      · exact h
      · cases h
        exact absurd rfl ha
    · rw [cutWork_port, Port.restart_idle hi]

theorem orderly_clearSessions : Orderly s (clearSessions s) where
  claims h := ⟨h.apart, h.held, h.once, h.waits, h.scrub⟩
  ops h := h
  discreet := by
    refine ⟨rfl, rfl, rfl, fun h => ?_, fun _ _ h _ => h, fun _ _ => rfl⟩
    have hmask : (clearSessions s).flags.getLsbD Flag.uncorrectable.bit = false := mask_lost (by simp)
    rw [hmask] at h
    cases h

theorem orderly_scrub {p : Scrubber}
    (hp : ClaimLaws s → p.stage = .none → s.place .scrubber = .empty) : Orderly s { s with scrub := p } where
  claims h := ⟨h.apart, h.held, h.once, h.waits, hp h⟩
  ops h := h
  discreet := .of_ports rfl rfl rfl rfl fun _ => rfl

theorem orderly_restartScrubber (hs : s.place .scrubber = .empty) : Orderly s s.restartScrubber := by
  unfold State.restartScrubber
  dsimp only
  split
  · exact orderly_scrub s fun _ _ => hs
  · exact orderly_scrub s fun _ _ => hs

theorem orderly_walk (k : Walk) : Orderly s { s with walk := k } := orderly_of_work rfl

theorem orderly_restartWalk : Orderly s s.restartWalk := by
  unfold State.restartWalk
  dsimp only
  split
  · exact (orderly_walk s _).trans (orderly_request _ rfl)
  · exact orderly_walk s _

theorem orderly_restart : Orderly s s.restart := by
  have hreset := work_resetChannels (cutWork s)
  have hempty : (cutWork s).resetChannels.place .scrubber = .empty := by
    rw [place_of_work hreset, cutWork_place]
  have hcut := (orderly_cutWork s).trans (orderly_of_work hreset)
  rw [restart_eq]
  generalize (cutWork s).resetChannels = u at hempty hcut
  exact ((hcut.trans (orderly_clearSessions u)).trans (orderly_restartScrubber _ hempty)).trans
    (orderly_restartWalk _)

/-! ## The data port -/

theorem served_transaction {i : Initiator} (hi : (s.port i).txn = .idle) (a : PortAccess) (addr : Nat) :
    Served (.dataPortTransaction i a addr) s (s.takeTransaction i a addr) := by
  have hport (j : Initiator) := takeTransaction_port (s := s) (i := i) (j := j) a addr
  have hframe : s.takeTransaction i a addr = { s with
      ports := (s.takeTransaction i a addr).ports, places := (s.takeTransaction i a addr).places
      arbs := (s.takeTransaction i a addr).arbs } := by
    rcases takeTransaction_cases s i a addr with ⟨r, e⟩ | ⟨t, e⟩
    · rw [e]; rfl
    · rw [e, admit_frame]; rfl
  refine ⟨fun h => takeTransaction_claimLaws h hi a addr, fun h => takeTransaction_portLaws h hi a addr,
    by rw [hframe], fun h ht => ?_, fun j x h hx hn => ?_, fun j _ hj _ => ?_⟩
  · have hsame : (s.takeTransaction i a addr).fault = s.fault := by
      rw [fault_eq, fault_eq, hframe]
    rw [hsame, h] at ht
    cases ht
  · by_cases hij : i = j
    · subst hij
      exact absurd ((hport i).2 x h) hx
    · rw [(hport j).1 hij] at h
      exact absurd h hn
  · exact (hport j).1 fun e => hj a addr (e ▸ rfl)

section
variable {s}
variable {k : Socket} {op : ModOp} {i : Initiator} {t : Txn} {f : FrameNo} {g : Option FrameNo} {n : Nat}

theorem setPort_claimsBut {w : List Initiator} {fl : FrameLine} {l : List Owner} (h : ClaimsBut s w fl l)
    (hi : (s.port i).txn.waitsOn = none) {p : Port} (hp : p.txn.waitsOn = none) :
    ClaimsBut (s.setPort i p) w fl l := by
  refine h.of_sameHeld (sameClaims_setPort s i p) (fun _ => rfl) fun j => ?_
  rw [setPort_port]
  split
  · next e => rw [← e, hp, hi]
  · rfl

theorem complete_port (s : State) (k : Socket) (op : ModOp) (i : Initiator) :
    (s.complete k op).port i = s.port i := by
  rw [complete_frame]; rfl

theorem readLost_frame (s : State) (t : Txn) :
    s.readLost t = { s with poison := (s.readLost t).poison, flags := (s.readLost t).flags } := by
  unfold State.readLost
  split
  · rfl
  · rw [addPoison_frame]; rfl

theorem sameTraffic_readLost (s : State) (t : Txn) : SameTraffic s (s.readLost t) := by
  rw [readLost_frame]
  exact .of_fields rfl rfl

theorem readLost_claimLaws (h : ClaimLaws s) (t : Txn) : ClaimLaws (s.readLost t) := by
  rw [readLost_frame]
  exact ⟨h.apart, h.held, h.once, h.waits, h.scrub⟩

/-- R100, R101: what an outcome does before its answer leaves the transactions and the claims. -/
theorem readOutcome_cases (s : State) (k : Socket) (op : ModOp) (i : Initiator) (t : Txn) (o : ReadOutcome) :
    ∃ u r d, s.readOutcome k op i t o = u.answer i r d ∧ SameTraffic (s.complete k op) u ∧
      (ClaimLaws (s.complete k op) → ClaimLaws u) ∧ u.pending = s.pending ∧
      (o ≠ .uncorrectable → r = .okay ∧ Discreet (s.complete k op) u) ∧ (o = .uncorrectable → d = .none) := by
  have hwork := work_takeOutcome (s.complete k op) op.fl.frame o
  have horder := orderly_of_work hwork
  have hpending : ((s.complete k op).takeOutcome op.fl.frame o).pending = s.pending :=
    horder.discreet.pending.trans (by rw [complete_frame])
  unfold State.readOutcome
  dsimp only
  split
  · exact ⟨_, _, _, rfl, (sameTraffic_of_work hwork).trans (sameTraffic_readLost _ t),
      fun h => readLost_claimLaws (horder.claims h) t, by rw [readLost_frame]; exact hpending,
      fun hne => absurd rfl hne, fun _ => rfl⟩
  · next hne =>
    exact ⟨_, _, _, rfl, sameTraffic_of_work hwork, horder.claims, hpending,
      fun _ => ⟨rfl, horder.discreet⟩, fun e => absurd e hne⟩

/-- R100, R101, R103: a data-port read's outcome. -/
theorem served_readOutcome {o : ReadOutcome} (hq : s.nextOp k = some op) (hr : op.req = .dataPort i)
    (ha : op.act = .read) (hl : op.standing = .live) (ht : (s.port i).txn = .steered t f g n) :
    Served (.dataPortReadOutcome k o) s (s.readOutcome k op i t o) := by
  obtain ⟨u, r, d, e, htraffic, hclaims, hpending, hgood, hlost⟩ := readOutcome_cases s k op i t o
  have hdelay (gl : FrameLine) : op.delaysClaims gl = false := by
    simp [ModOp.delaysClaims, ha, OpAct.isWrite]
  have hport (j : Initiator) : u.port j = s.port j := (htraffic.port j).trans (complete_port s k op j)
  have hanswer (j : Initiator) : (u.answer i r d).port j =
      if i = j then { txn := .idle, answer := some { resp := r, data := d } } else s.port j := by
    rw [State.answer, setPort_port, hport]
  rw [e]
  refine ⟨fun h => ?_, fun h => answered_portLaws h hq hr hl ht (read_alone h hq hr hl ha ht) htraffic r d,
    hpending, fun h hf => ?_, fun j x h hx hn => ?_, fun j hj _ _ => ?_⟩
  · refine (setPort_claimsBut (claimsBut_of_laws (hclaims (complete_claimLaws h hq hdelay)) ⟨0, 0⟩) ?_ rfl).laws
    rw [hport, ht]
    rfl
  · by_cases ho : o = .uncorrectable
    · exact .inl ⟨k, by rw [ho]⟩
    · have hu : s.fault = true := ((discreet_complete s k op).trans (hgood ho).2).fault hf
      rw [hu] at h
      cases h
  · rw [hanswer] at h
    split at h
    · cases h
      have ho : o ≠ .uncorrectable := fun ho => hx (hlost ho)
      exact ⟨(hgood ho).1, k, o, rfl, ho⟩
    · exact absurd h hn
  · rw [hanswer, if_neg]
    rintro rfl
    rw [ht] at hj
    cases hj

/-- What leaves the work alone leaves the requests still to be tested. -/
theorem ClaimsBut.of_work {u v : State} {w : List Initiator} {fl : FrameLine}
    (h : ClaimsBut u w fl u.reqOrder) (hv : work v = work u) : ClaimsBut v w fl v.reqOrder := by
  have horder : v.reqOrder = u.reqOrder := congrArg Work.reqOrder hv
  rw [horder]
  exact h.of_sameHeld (sameClaims_of_work hv) (fun p => by rw [place_of_work hv])
    fun i => by rw [(sameTraffic_of_work hv).port]

/-- R94, R96, R102: a write of a transaction completes, and the requests on its line are tested. -/
theorem orderly_writeComplete (hq : s.nextOp k = some op) (hr : op.req = .dataPort i)
    (hl : op.standing = .live) (ht : (s.port i).txn = .steered t f g n) :
    Orderly s (s.writeComplete k op i t f g n) := by
  have htxn : ((s.complete k op).port i).txn = .steered t f g n := by rw [complete_port, ht]
  have hwaits : ((s.complete k op).port i).txn.waitsOn = none := by rw [htxn]; rfl
  have hbusy : ((s.complete k op).port i).txn ≠ .idle := by rw [htxn]; nofun
  have hdrop (u : State) : work (if t.op.isLineWrite then u.dropPoison t.slice t.line else u) = work u := by
    split <;> rfl
  have hdone : SameTraffic (s.complete k op)
      (if t.op.isLineWrite then (s.complete k op).dropPoison t.slice t.line else s.complete k op) :=
    sameTraffic_of_work (hdrop _)
  unfold State.writeComplete State.writeDone
  dsimp only
  refine ⟨fun h => ClaimsBut.testRequests ?_, fun h => (sameTraffic_testRequests _ _).portLaws ?_,
    (discreet_complete s k op).trans (Discreet.trans ?_ (discreet_testRequests _ _))⟩
  · have hbut := complete_claimsBut h hq
    split
    · have hleft := hbut.of_work (hdrop (s.complete k op))
      generalize (if t.op.isLineWrite then (s.complete k op).dropPoison t.slice t.line
        else s.complete k op) = u at hleft hdone ⊢
      exact setPort_claimsBut hleft (by rw [hdone.port]; exact hwaits) rfl
    · exact setPort_claimsBut hbut hwaits rfl
  · split
    · next hn => exact answered_portLaws h hq hr hl ht hn hdone _ _
    · next hn => exact oneLeft_portLaws h hq hr hl ht (by omega)
  · split
    · refine (discreet_of_work (hdrop _)).trans (discreet_setPort _ ?_ ?_)
      · rw [hdone.port]; exact hbusy
      · rintro a ⟨rfl⟩ ha
        exact absurd rfl ha
    · exact discreet_setPort _ hbusy fun a h _ => h

/-- R46, R65, R96, R104: an abandoned operation completes, and the requests on its line are tested. -/
theorem orderly_abandonedComplete (hq : s.nextOp k = some op) (hl : op.standing ≠ .live) (o : ReadOutcome) :
    Orderly s (s.abandonedComplete k op o) := by
  have hcount (u : State) :
      work (if op.act = .read ∧ op.standing = .aborted then u.takeOutcome op.fl.frame o else u) = work u := by
    split
    · exact work_takeOutcome _ _ _
    · rfl
  unfold State.abandonedComplete
  dsimp only
  have hu := hcount (s.complete k op)
  generalize (if op.act = .read ∧ op.standing = .aborted then (s.complete k op).takeOutcome op.fl.frame o
    else s.complete k op) = u at hu
  refine ⟨fun h => ClaimsBut.testRequests ?_, fun h => ?_,
    ((discreet_complete s k op).trans (discreet_of_work hu)).trans (discreet_testRequests _ _)⟩
  · exact (complete_claimsBut h hq).of_work hu
  · exact (((sameTraffic_complete hq (.inr hl)).trans (sameTraffic_of_work hu)).trans
      (sameTraffic_testRequests _ _)).portLaws h

end

end
end Sys2Proof.Machine.WorkProofs
end

section
/-! Every command as an event at the data port and the claim table, and from it the statements about every command
and every step (R87, R88, R95, R96, R100, R101, R103, R107, R174). -/

namespace Sys2Proof.Machine.WorkProofs

open Sys2Proof Sys2Proof.Machine Sys2Proof.Machine.Laws Sys2Proof.Machine.MapProofs
  Sys2Proof.Machine.FrameProofs Sys2Proof.Machine.ChannelProofs

section
variable {c : Instr} (s : State)

/-! ## Grants -/

theorem orderly_grant {k : Socket} {op : ModOp} (h : (s.arb k).choose = some op) :
    Orderly s (s.setArb k ((s.arb k).grant op)) :=
  orderly_of_arbs rfl (sameTraffic_grant (choose_mem h)) (sameClaims_grant (choose_mem h))

/-- R96: under the laws no request stands on a free line, and a claim grant does not occur. -/
theorem orderly_grantClaim {o : Owner} {fl : FrameLine} (ho : s.place o = .requested fl)
    (hf : s.lineFree fl = true) : Orderly s (s.grantClaim o fl) where
  claims h := by
    have hbusy := (h.waits o fl (requests_iff.2 ho)).2
    rw [hf] at hbusy
    cases hbusy
  ops := (sameTraffic_grantClaim s o fl).portLaws
  discreet := discreet_grantClaim s o fl

/-! ## The migration engine -/

theorem orderly_writeTarget (ch : ChanNo) (m : Migration) (l : LineNo) (d : Line) :
    Orderly s (s.writeTarget ch m l d) := orderly_request s rfl

theorem orderly_addPoison (i : SliceNo) (l : LineNo) : Orderly s (s.addPoison i l) :=
  orderly_of_work (work_addPoison s i l)

theorem orderly_bumpIf (b : Bool) : Orderly s (s.bumpIf b) := orderly_of_work (work_bumpIf s b)

theorem orderly_setChan (ch : ChanNo) (x : Channel) : Orderly s (s.setChan ch x) := orderly_of_work rfl

theorem orderly_copyLost (ch : ChanNo) (m : Migration) (fl : FrameLine) : Orderly s (s.copyLost ch m fl) := by
  have hadd := (orderly_of_work (work_countAndMark s fl.frame .uncorrectable)).trans
    (orderly_addPoison _ m.slice fl.line)
  unfold State.copyLost
  dsimp only
  split
  · exact (hadd.trans (orderly_bumpIf _ _)).trans (orderly_writeTarget _ ch m _ _)
  · exact ((hadd.trans (orderly_bumpIf _ _)).trans (orderly_setChan _ ch _)).trans
      (orderly_writeTarget _ ch m _ _)
  · exact hadd.trans (orderly_abortChannel _ ch _)

section
variable {s} {k : Socket} {op : ModOp}

theorem orderly_copyRead {ch : ChanNo} (hq : s.nextOp k = some op) (hr : op.req = .channel ch)
    (hl : op.standing = .live) (m : Migration) (o : ReadOutcome) : Orderly s (s.copyRead k op ch m o) := by
  have hdone := orderly_complete hq (by rw [hr]; rfl) hl
  unfold State.copyRead
  dsimp only
  split
  · exact hdone.trans (orderly_copyLost _ ch m _)
  · exact (hdone.trans (orderly_of_work (work_takeOutcome _ _ _))).trans (orderly_writeTarget _ ch m _ _)

theorem orderly_copyDone {ch : ChanNo} (hq : s.nextOp k = some op) (hr : op.req = .channel ch)
    (hl : op.standing = .live) (m : Migration) (f : FrameNo) : Orderly s (s.copyDone k op ch m f) := by
  have hdone := orderly_complete hq (by rw [hr]; rfl) hl
  unfold State.copyDone
  dsimp only
  split
  · exact ((hdone.trans (orderly_setChan _ ch _)).trans (orderly_releasePlace _ _)).trans
      (orderly_beginCopy (releasePlace_channel_empty _ ch))
  · exact (hdone.trans (orderly_of_work (work_commit _ ch _ f))).trans (orderly_releasePlace _ _)

/-! ## The patrol scrubber -/

/-- R107, R109: an expiry begins a scrub if none is in flight, and the scrubber claims nothing then. -/
theorem orderly_timerExpires : Orderly s s.timerExpires := by
  unfold State.timerExpires
  dsimp only
  split
  · next hstage =>
    have htimer : Orderly s { s with scrub := { s.scrub with timer := some 0 } } := orderly_of_work rfl
    exact htimer.trans ⟨fun h => chooseScrub_claimLaws h (h.scrub hstage),
      (sameTraffic_chooseScrub _).portLaws, discreet_chooseScrub _⟩
  · exact orderly_of_work rfl

theorem orderly_scrubCorrected (s : State) (fl : FrameLine) (d : Line) : Orderly s (s.scrubCorrected fl d) := by
  have hmark := orderly_of_work (work_takeOutcome s fl.frame .corrected)
  unfold State.scrubCorrected
  dsimp only
  split
  · exact (hmark.trans (orderly_scrub _ fun _ h => by cases h)).trans (orderly_request _ rfl)
  · exact hmark.trans (orderly_endScrub _)

theorem orderly_scrubLost (s : State) (fl : FrameLine) : Orderly s (s.scrubLost fl) := by
  have hmark := orderly_of_work (work_takeOutcome s fl.frame .uncorrectable)
  unfold State.scrubLost
  dsimp only
  split
  · exact (hmark.trans (orderly_addPoison _ _ _)).trans (orderly_endScrub _)
  · exact hmark.trans (orderly_endScrub _)

theorem orderly_scrubRead (hq : s.nextOp k = some op) (hr : op.req = .scrubber) (hl : op.standing = .live)
    (o : ReadOutcome) : Orderly s (s.scrubRead k op o) := by
  have hdone := orderly_complete hq (by rw [hr]; rfl) hl
  unfold State.scrubRead
  dsimp only
  split
  · exact hdone.trans (orderly_endScrub _)
  · exact hdone.trans (orderly_scrubCorrected _ _ _)
  · exact hdone.trans (orderly_scrubLost _ _)

end

/-! ## The inventory walk -/

theorem orderly_walkRequest (f : FrameNo) (p : TestPass) (l : LineNo) : Orderly s (s.walkRequest f p l) := by
  cases p
  · exact (orderly_walk s _).trans (orderly_request _ rfl)
  · exact (orderly_walk s _).trans (orderly_request _ rfl)

theorem orderly_walkWritten (f : FrameNo) : Orderly s (s.walkWritten f) := by
  unfold State.walkWritten
  split
  · exact orderly_walkRequest ..
  · exact orderly_walkRequest ..

theorem work_testVerdict (f : FrameNo) : work (s.testVerdict f) = work s := by
  unfold State.testVerdict
  split
  · exact (work_retireFrame _ f).trans (work_setSuspect s f _)
  · rfl

theorem work_endWalk : work s.endWalk = work s := by
  have hend (k : Walk) (p : Phase) : work { s with walk := k, phase := p } = work s := rfl
  exact (work_raise _ (by simp)).trans ((work_startScrubber _).trans (hend _ _))

theorem orderly_testComplete (f : FrameNo) : Orderly s (s.testComplete f) := by
  have hverdict := orderly_of_work (work_testVerdict s f)
  unfold State.testComplete
  dsimp only
  split
  · exact hverdict.trans ((orderly_walk _ _).trans (orderly_walkRequest ..))
  · exact hverdict.trans (orderly_of_work (work_endWalk _))

theorem orderly_walkRead (f : FrameNo) (o : ReadOutcome) : Orderly s (s.walkRead f o) := by
  have hcount : work (s.countOnly f o) = work s := by rw [countOnly_frame]; rfl
  have hfail (u : State) :
      work (if o = .uncorrectable then { u with walk := { u.walk with failed := true } } else u) = work u := by
    split <;> rfl
  have hcounted := orderly_of_work ((hfail _).trans hcount)
  unfold State.walkRead
  dsimp only
  generalize (if o = .uncorrectable then
    { s.countOnly f o with walk := { (s.countOnly f o).walk with failed := true } }
    else s.countOnly f o) = u at hcounted ⊢
  refine hcounted.trans ?_
  split
  · exact orderly_walkRequest ..
  · exact orderly_testComplete ..

/-! ## The command unit -/

theorem orderly_takeCommand {forCode : Byte → Bool} {run : CmdWord → State → CmdOut}
    (hrun : ∀ w u, Orderly u (run w u).state) : Orderly s (s.takeCommand forCode run) := by
  have hqueue (u : State) (q : List CmdWord) : Orderly u { u with cmdQ := q } := orderly_of_work rfl
  have hrespond (w : CmdWord) (o : CmdOut) : Orderly o.state (o.respond w) := orderly_of_work rfl
  unfold State.takeCommand State.whenOn
  split
  · split
    · exact .refl s
    · split
      · exact ((hqueue s _).trans (hrun _ _)).trans (hrespond _ _)
      · exact .refl s
  · exact .refl s

theorem orderly_guarded {ps : List Phase} {b : Bool} {run : CmdOut} (h : Orderly s run.state) :
    Orderly s (s.guarded ps b run).state := by
  unfold State.guarded
  split
  · split
    · exact .refl s
    · exact h
  · exact .refl s

theorem orderly_retireTarget (f : FrameNo) : Orderly s (s.retireTarget f).state := by
  have hmark := orderly_of_work (work_setSuspect s f .software)
  unfold State.retireTarget
  split
  · exact hmark.trans (orderly_abortChannel _ _ _)
  · exact hmark.trans (orderly_of_work (work_retireFrame _ f))

theorem orderly_retire (w : CmdWord) : Orderly s (retireCommand w s).state := by
  have hmark (f : FrameNo) : Orderly s (s.markSuspect f .software).bump :=
    orderly_of_work (work_markSuspect s f _)
  unfold retireCommand
  split
  · next f _ =>
    refine orderly_guarded s ?_
    split
    · exact .refl s
    · exact .refl s
    · exact .refl s
    · exact orderly_retireTarget s f
    · split
      · exact .refl s
      · exact hmark f
    · exact hmark f
    · exact hmark f
  · exact .refl s

theorem orderly_cancel (w : CmdWord) : Orderly s (cancelCommand w s).state := by
  unfold cancelCommand
  split
  · refine orderly_guarded s ?_
    split
    · exact .refl s
    · exact orderly_abortChannel ..
  · exact .refl s

/-! ## The control aperture -/

theorem served_apertureWrite {a : BusAccess} {effect : State → State} (h : Served c s (effect s)) :
    Served c s (s.apertureWrite a effect) := by
  refine served_whenOn s ?_
  split
  · exact ⟨fun hs => claimLaws_of_sameHeld (s := effect s) (.of_ops (fun _ => rfl) rfl rfl fun _ _ hx _ => hx)
      (fun _ => rfl) (fun _ => rfl) (h.claims hs), h.ops, h.pending, h.fault, h.data, h.idle⟩
  · exact served_of_work rfl

/-- R138: a write of EVENTS clears flags and sets none. -/
theorem orderly_clearFlags (v : BitVec 13) : Orderly s (s.clearFlags v) where
  claims h := ⟨h.apart, h.held, h.once, h.waits, h.scrub⟩
  ops h := h
  discreet := by
    refine ⟨rfl, rfl, rfl, fun h => ?_, fun _ _ h _ => h, fun _ _ => rfl⟩
    rw [clearFlags_flags, BitVec.getLsbD_and, Bool.and_eq_true] at h
    exact h.1

/-- R174: a write of FAULT_ENABLE may turn FAULT on. -/
theorem served_faultEnable (a : BusAccess) (v : Word32) (b : Bool) :
    Served (.faultEnableWrite a v) s { s with faultEnable := b } where
  claims h := ⟨h.apart, h.held, h.once, h.waits, h.scrub⟩
  ops h := h
  pending := rfl
  fault _ _ := .inr ⟨a, v, rfl⟩
  data _ _ h _ hn := absurd h hn
  idle _ _ _ _ := rfl

end

/-! ## Every command -/

/-- A row's command answers a next state, and serves. -/
def Serves (c : Instr) (s : State) : Prop := ∃ t, exec c s = .next t ∧ Served c s t

/-- Every command, from every state. -/
theorem exec_serves (c : Instr) (s : State) : Serves c s := by
  have hsame {d : Instr} : Served d s s := served_refl
  have hcommand {d : Instr} {forCode : Byte → Bool} {run : CmdWord → State → CmdOut}
      (hrun : ∀ u w, work (run w u).state = work u) : Served d s (s.takeCommand forCode run) :=
    served_of_work (work_takeCommand s fun w u => hrun u w)
  cases c with
  | powerOnReset codes => exact ⟨_, rfl, served_powerOn s codes⟩
  | powerGoodFall => exact ⟨_, rfl, served_powerOff s⟩
  | warmRestart =>
    refine ⟨_, rfl, served_whenOn s ?_⟩
    split
    · exact (orderly_restart s).served
    · exact hsame
  | warmRestartInput active => exact ⟨_, rfl, served_of_work rfl⟩
  | warmRestartWrite a v =>
    refine ⟨_, rfl, served_apertureWrite s ?_⟩
    split
    · exact served_of_work rfl
    · exact hsame
  | dataPortTransaction i a addr =>
    refine ⟨_, rfl, served_whenOn s ?_⟩
    split
    · next hi => exact served_transaction s hi a addr
    · exact hsame
  | dataPortReadOutcome k o =>
    refine ⟨_, rfl, served_whenOn s ?_⟩
    split
    · next hq =>
      split
      · next hr ha hl =>
        split
        · next ht => exact served_readOutcome hq hr ha hl ht
        · exact hsame
      · exact hsame
    · exact hsame
  | dataPortWriteComplete k =>
    refine ⟨_, rfl, served_whenOn s ?_⟩
    split
    · next hq =>
      split
      · next hr _ hl =>
        split
        · next ht => exact (orderly_writeComplete hq hr hl ht).served
        · exact hsame
      · exact hsame
    · exact hsame
  | abandonedOperationComplete k o =>
    refine ⟨_, rfl, served_whenOn s ?_⟩
    split
    · next hq =>
      split
      · exact hsame
      · next hl => exact (orderly_abandonedComplete hq hl o).served
    · exact hsame
  | arbiterGrant k =>
    refine ⟨_, rfl, served_whenOn s ?_⟩
    split
    · next h => exact (orderly_grant s h).served
    · exact hsame
  | claimGrant o =>
    refine ⟨_, rfl, served_whenOn s ?_⟩
    split
    · next ho =>
      split
      · next hb => exact (orderly_grantClaim s ho (Bool.and_eq_true_iff.1 hb).1).served
      · exact hsame
    · exact hsame
  | lineCopyBegin ch =>
    refine ⟨_, rfl, served_whenOn s ?_⟩
    split
    · next hmay =>
      obtain ⟨_, _, -, -, hempty⟩ := mayBeginCopy_iff.1 hmay
      exact (orderly_beginCopy hempty).served
    · exact hsame
  | lineCopyReadOutcome k o =>
    refine ⟨_, rfl, served_whenOn s ?_⟩
    split
    · next hq =>
      split
      · next hr _ hl =>
        split
        · exact (orderly_copyRead hq hr hl _ o).served
        · exact hsame
      · exact hsame
    · exact hsame
  | lineCopyComplete k =>
    refine ⟨_, rfl, served_whenOn s ?_⟩
    split
    · next hq =>
      split
      · next hr _ hl =>
        split
        · exact (orderly_copyDone hq hr hl _ _).served
        · exact hsame
      · exact hsame
    · exact hsame
  | chainBrokenAbort =>
    refine ⟨_, rfl, served_whenOn s ?_⟩
    split
    · exact (orderly_abortChannel s _ _).served
    · exact hsame
  | dispatchStart =>
    refine ⟨_, rfl, served_whenOn s ?_⟩
    split
    · exact served_of_work (work_setUpMigration ..)
    · exact hsame
  | scrubTimerExpiry =>
    refine ⟨_, rfl, served_whenOn s ?_⟩
    split
    · exact orderly_timerExpires.served
    · exact hsame
  | scrubReadOutcome k o =>
    refine ⟨_, rfl, served_whenOn s ?_⟩
    split
    · next hq =>
      split
      · next hr _ hl => exact (orderly_scrubRead hq hr hl o).served
      · exact hsame
    · exact hsame
  | scrubWriteBackComplete k =>
    refine ⟨_, rfl, served_whenOn s ?_⟩
    split
    · next hq =>
      split
      · next hr _ hl => exact ((orderly_complete hq (by rw [hr]; rfl) hl).trans (orderly_endScrub _)).served
      · exact hsame
    · exact hsame
  | inventoryWriteComplete k =>
    refine ⟨_, rfl, served_whenOn s ?_⟩
    split
    · next hq =>
      split
      · next hr _ hl _ =>
        exact ((orderly_complete hq (by rw [hr]; rfl) hl).trans (orderly_walkWritten _ _)).served
      · exact hsame
    · exact hsame
  | inventoryReadOutcome k o =>
    refine ⟨_, rfl, served_whenOn s ?_⟩
    split
    · next hq =>
      split
      · next hr _ hl _ =>
        exact ((orderly_complete hq (by rw [hr]; rfl) hl).trans (orderly_walkRead _ _ o)).served
      · exact hsame
    · exact hsame
  | submit a v => exact ⟨_, rfl, served_apertureWrite s (served_of_work (work_submit s))⟩
  | rspPop a v => exact ⟨_, rfl, served_apertureWrite s (served_of_work rfl)⟩
  | eventsWrite a v => exact ⟨_, rfl, served_apertureWrite s (orderly_clearFlags s _).served⟩
  | eventEnableWrite a v => exact ⟨_, rfl, served_apertureWrite s (served_of_work rfl)⟩
  | faultEnableWrite a v => exact ⟨_, rfl, served_apertureWrite s (served_faultEnable s a v _)⟩
  | registerWrite a r v => exact ⟨_, rfl, served_apertureWrite s (served_of_work (work_writePlain s r v))⟩
  | badCommand => exact ⟨_, rfl, hcommand fun _ _ => rfl⟩
  | map => exact ⟨_, rfl, hcommand work_map⟩
  | unmap => exact ⟨_, rfl, hcommand work_unmap⟩
  | setAttr => exact ⟨_, rfl, hcommand work_setAttr⟩
  | querySlice => exact ⟨_, rfl, hcommand work_querySlice⟩
  | lockMap => exact ⟨_, rfl, hcommand work_lockMap⟩
  | queryFrame => exact ⟨_, rfl, hcommand work_queryFrame⟩
  | addSpare => exact ⟨_, rfl, hcommand work_addSpare⟩
  | withdrawSpare => exact ⟨_, rfl, hcommand work_withdrawSpare⟩
  | retire => exact ⟨_, rfl, (orderly_takeCommand s fun w u => orderly_retire u w).served⟩
  | clearCounts => exact ⟨_, rfl, hcommand work_clearCounts⟩
  | migrate => exact ⟨_, rfl, hcommand work_migrate⟩
  | cancel => exact ⟨_, rfl, (orderly_takeCommand s fun w u => orderly_cancel u w).served⟩
  | queryChannel => exact ⟨_, rfl, hcommand work_queryChannel⟩
  | clearPoison => exact ⟨_, rfl, hcommand work_clearPoison⟩
  | queryPoison => exact ⟨_, rfl, hcommand work_queryPoison⟩
  | setPolicy => exact ⟨_, rfl, hcommand work_setPolicy⟩
  | queryPart => exact ⟨_, rfl, hcommand work_queryPart⟩
  | adoptDefault => exact ⟨_, rfl, hcommand work_adoptDefault⟩
  | importBegin => exact ⟨_, rfl, hcommand work_importBegin⟩
  | importRecord => exact ⟨_, rfl, hcommand work_importRecord⟩
  | importEnd => exact ⟨_, rfl, hcommand work_importEnd⟩
  | importAbort => exact ⟨_, rfl, hcommand work_importAbort⟩
  | exportBegin => exact ⟨_, rfl, hcommand work_exportBegin⟩
  | exportNext => exact ⟨_, rfl, hcommand work_exportNext⟩

theorem exec_served {c : Instr} {s t : State} (ht : exec c s = .next t) : Served c s t := by
  obtain ⟨u, hu, h⟩ := exec_serves c s
  rw [hu] at ht
  cases ht
  exact h

theorem claimLaws_of_queue {u v : State} (e : work v = { work u with pending := v.pending })
    (h : ClaimLaws u) : ClaimLaws v :=
  (orderly_of_work (s := { u with pending := v.pending }) e).claims ⟨h.apart, h.held, h.once, h.waits, h.scrub⟩

theorem portLaws_of_queue {u v : State} (e : work v = { work u with pending := v.pending })
    (h : PortLaws u) : PortLaws v :=
  (orderly_of_work (s := { u with pending := v.pending }) e).ops h

/-- A step is a microsecond, which leaves the work alone but for the queue of commands, or one command's. -/
theorem step_keeps {P : State → Prop} {s t : State} (h : P s) (ht : step s = .next t)
    (hqueue : ∀ u v : State, work v = { work u with pending := v.pending } → P u → P v)
    (hexec : ∀ c u v, exec c u = .next v → P u → P v) : P t := by
  unfold step at ht
  split at ht
  · cases ht
    exact hqueue s s.tick rfl h
  · exact hexec _ _ _ ht (hqueue s _ rfl h)

end Sys2Proof.Machine.WorkProofs

open Sys2Proof Sys2Proof.Machine Sys2Proof.Machine.Laws Sys2Proof.Machine.WorkProofs

/-- Settles O46. -/
theorem everyCommandAnswersAndLeavesTheQueue : Obligations.EveryCommandAnswersAndLeavesTheQueue := by
  intro c s
  obtain ⟨t, ht, hserved⟩ := exec_serves c s
  exact ⟨t, ht, hserved.pending⟩

/-- Settles O49: a step is a microsecond or a command, and every command keeps the laws of the claim table. -/
theorem everyStepKeepsTheClaimTable : Obligations.EveryStepKeepsTheClaimTable := fun _ _ h ht =>
  step_keeps h ht (fun _ _ => claimLaws_of_queue) fun _ _ _ he => (exec_served he).claims

/-- Settles O50: a step is a microsecond or a command, and every command keeps records and operations together. -/
theorem everyStepKeepsTransactionsAndOperationsTogether :
    Obligations.EveryStepKeepsTransactionsAndOperationsTogether := fun _ _ h ht =>
  step_keeps h ht (fun _ _ => portLaws_of_queue) fun _ _ _ he => (exec_served he).ops

/-- Settles O55. -/
theorem faultRisesAtLostReadsOrItsEnableAlone : Obligations.FaultRisesAtLostReadsOrItsEnableAlone :=
  fun _ _ _ hs ht hfault => (exec_served ht).fault hs hfault

/-- Settles O56. -/
theorem idleInitiatorsAreLeftAloneDataIsFromGoodReads :
    Obligations.IdleInitiatorsAreLeftAloneDataIsFromGoodReads :=
  ⟨fun _ _ _ i a ht => (exec_served ht).data i a, fun _ _ _ i hi hc hp ht => (exec_served ht).idle i hi hc hp⟩

end

section
/-! Each arbiter's grant: the oldest eligible operation of the highest kind (R105, R106). -/

namespace Sys2Proof.Machine.WorkProofs

open Sys2Proof Sys2Proof.Machine Sys2Proof.Machine.Laws

/-! ## Operations with no earlier one on their line -/

section
variable {w before after : List ModOp} {op : ModOp}

/-- R105: an operation with no earlier one on its line stands behind the eligible ones before it. -/
theorem eligibleOps_append_cons {seen : List FrameLine} (hseen : op.fl ∉ seen) (h : eligibleAfter before op) :
    ∃ rest, eligibleOps seen (before ++ op :: after) = eligibleOps seen before ++ op :: rest := by
  induction before generalizing seen with
  | nil =>
    refine ⟨eligibleOps (op.fl :: seen) after, ?_⟩
    rw [List.nil_append, eligibleOps, eligibleOps, if_neg (by simpa using hseen), List.nil_append]
  | cons x before ih =>
    have hbefore : eligibleAfter before op := fun y hy => h y (.tail _ hy)
    rw [List.cons_append, eligibleOps, eligibleOps]
    split
    · exact ih hseen hbefore
    · have hcons : op.fl ∉ x.fl :: seen := List.not_mem_cons_of_ne_of_not_mem (h x (.head _)).symm hseen
      obtain ⟨rest, hrest⟩ := ih hcons hbefore
      exact ⟨rest, by rw [hrest]; rfl⟩

/-- R105: an eligible operation has no earlier one on its line. -/
theorem eligible_of_mem {seen : List FrameLine} (h : op ∈ eligibleOps seen w) :
    op.fl ∉ seen ∧ ∃ b a, w = b ++ op :: a ∧ eligibleAfter b op := by
  induction w generalizing seen with
  | nil => cases h
  | cons x w ih =>
    rw [eligibleOps] at h
    split at h
    · next hx =>
      obtain ⟨hseen, b, a, hw, hb⟩ := ih h
      refine ⟨hseen, x :: b, a, by rw [hw]; rfl, fun y hy => ?_⟩
      rcases List.mem_cons.1 hy with rfl | hy
      · exact fun e => hseen (e ▸ by simpa using hx)
      · exact hb y hy
    · next hx =>
      rcases List.mem_cons.1 h with rfl | h
      · exact ⟨by simpa using hx, [], w, rfl, nofun⟩
      · obtain ⟨hseen, b, a, hw, hb⟩ := ih h
        obtain ⟨hne, hseen⟩ := not_or.1 (mt List.mem_cons.2 hseen)
        refine ⟨hseen, x :: b, a, by rw [hw]; rfl, fun y hy => ?_⟩
        rcases List.mem_cons.1 hy with rfl | hy
        · exact Ne.symm hne
        · exact hb y hy

/-- The oldest eligible operation of a kind. -/
theorem find_oldest {p : ModOp → Bool} (hw : w = before ++ op :: after) (he : eligibleAfter before op)
    (hp : p op = true)
    (hmin : ∀ b x a, w = b ++ x :: a → eligibleAfter b x → p x = true → before.length ≤ b.length) :
    (eligibleOps [] w).find? p = some op := by
  obtain ⟨rest, hrest⟩ := eligibleOps_append_cons (after := after) List.not_mem_nil he
  have hnone : (eligibleOps [] before).find? p = none := by
    refine List.find?_eq_none.2 fun x hx hpx => ?_
    obtain ⟨-, b, a, hb, hbx⟩ := eligible_of_mem hx
    have hle := hmin b x (a ++ op :: after) (by rw [hw, hb]; simp) hbx hpx
    rw [hb, List.length_append, List.length_cons] at hle
    omega
  rw [hw, hrest, List.find?_append, hnone, Option.none_or, List.find?_cons_of_pos hp]

theorem find_no_eligible {p : ModOp → Bool}
    (h : ∀ b x a, w = b ++ x :: a → eligibleAfter b x → p x = false) : (eligibleOps [] w).find? p = none := by
  refine List.find?_eq_none.2 fun x hx hpx => ?_
  obtain ⟨-, b, a, hb, hbx⟩ := eligible_of_mem hx
  rw [h b x a hb hbx] at hpx
  cases hpx

end

/-! ## The choice -/

/-- R106: in the order of turns after the channel last granted, the channels before one are those of fewer
places on. -/
theorem turnsAfter_split : ∀ last c : ChanNo,
    turnsAfter last = (turnsAfter last).take (c - last - 1).val ++
      c :: (turnsAfter last).drop ((c - last - 1).val + 1) ∧
    ∀ d ∈ (turnsAfter last).take (c - last - 1).val, (d - last - 1).val < (c - last - 1).val := by
  decide

section
variable {a : Arbiter} {op : ModOp}

theorem choose_dataPort (h : (eligibleOps [] a.waiting).find? (fun x => x.req.isDataPort) = some op) :
    a.choose = some op := by
  unfold Arbiter.choose
  dsimp only
  rw [h, Option.some_or]

theorem choose_scrubber (hport : (eligibleOps [] a.waiting).find? (fun x => x.req.isDataPort) = none)
    (h : (eligibleOps [] a.waiting).find? (fun x => x.req == .scrubber) = some op) : a.choose = some op := by
  unfold Arbiter.choose
  dsimp only
  rw [hport, h, Option.none_or, Option.some_or]

theorem choose_channel {c : ChanNo}
    (hport : (eligibleOps [] a.waiting).find? (fun x => x.req.isDataPort) = none)
    (hscrub : (eligibleOps [] a.waiting).find? (fun x => x.req == .scrubber) = none)
    (hsooner : ∀ d : ChanNo, (d - a.lastChan - 1).val < (c - a.lastChan - 1).val →
      (eligibleOps [] a.waiting).find? (fun x => x.req == .channel d) = none)
    (h : (eligibleOps [] a.waiting).find? (fun x => x.req == .channel c) = some op) : a.choose = some op := by
  obtain ⟨hsplit, hturns⟩ := turnsAfter_split a.lastChan c
  have hchan : (turnsAfter a.lastChan).findSome?
      (fun c => (eligibleOps [] a.waiting).find? fun x => x.req == .channel c) = some op :=
    List.findSome?_eq_some_iff.2 ⟨_, c, _, hsplit, h, fun d hd => hsooner d (hturns d hd)⟩
  unfold Arbiter.choose
  dsimp only
  rw [hport, hscrub, hchan, Option.none_or, Option.none_or, Option.some_or]

/-- R106: the walk's operations are granted where no other kind's wait. -/
theorem choose_inventory {rest : List ModOp} (hw : a.waiting = op :: rest)
    (hall : ∀ x ∈ a.waiting, x.req = .inventory) : a.choose = some op := by
  have hnone {p : ModOp → Bool} (hp : ∀ x : ModOp, x.req = .inventory → p x = false) :
      (eligibleOps [] a.waiting).find? p = none :=
    find_no_eligible fun b x c h _ => hp x (hall x (by rw [h]; simp))
  have hturns : (turnsAfter a.lastChan).findSome?
      (fun c => (eligibleOps [] a.waiting).find? fun x => x.req == .channel c) = none :=
    List.findSome?_eq_none_iff.2 fun c _ => hnone fun x hx => by rw [hx]; rfl
  have hfirst : (eligibleOps [] a.waiting).find? (fun x => x.req == .inventory) = some op :=
    find_oldest (before := []) hw nofun (by rw [hall op (by rw [hw]; exact .head _)]; rfl)
      fun _ _ _ _ _ _ => Nat.zero_le _
  unfold Arbiter.choose
  dsimp only
  rw [hturns, hnone fun x hx => by rw [hx]; rfl, hnone fun x hx => by rw [hx]; rfl, hfirst]
  rfl

/-- R105: an eligible operation granted leaves the waiting list where it stood. -/
theorem grant_eligible {before after : List ModOp} (hw : a.waiting = before ++ op :: after)
    (he : eligibleAfter before op) : a.grant op = { a.grant op with waiting := before ++ after } := by
  have hnot : op ∉ before := fun h => he op h rfl
  have herase : a.waiting.erase op = before ++ after := by
    rw [hw, List.erase_append_right _ hnot, List.erase_cons_head]
  rw [← herase]
  rfl

end

theorem exec_arbiterGrant {s : State} {k : Socket} (hp : s.powered = true) :
    ((s.arb k).choose = none → exec (.arbiterGrant k) s = .next s) ∧
    ∀ op, (s.arb k).choose = some op →
      exec (.arbiterGrant k) s = .next (s.setArb k ((s.arb k).grant op)) := by
  have hexec : exec (.arbiterGrant k) s = execArbiterGrant k s := rfl
  rw [hexec, execArbiterGrant, State.whenOn, if_pos hp]
  exact ⟨fun h => by rw [h], fun op h => by rw [h]⟩

end Sys2Proof.Machine.WorkProofs

open Sys2Proof Sys2Proof.Machine Sys2Proof.Machine.Laws Sys2Proof.Machine.WorkProofs

/-- Settles O32, by the kind of the operation granted. -/
theorem arbitersGrantByPriority : Obligations.ArbitersGrantByPriority := by
  intro s k hp
  refine ⟨fun hw => ?_, fun before op after hw he hkind => ?_⟩
  · have hnone : (s.arb k).choose = none := by rw [Arbiter.choose, hw]; rfl
    exact (exec_arbiterGrant hp).1 hnone
  · have hchoose : (s.arb k).choose = some op := by
      rcases hkind with ⟨hr, hmin⟩ | ⟨hport, ⟨hr, hmin⟩ | ⟨hscrub, c, hr, hmin, hsooner⟩⟩ | ⟨hr, rfl, hall⟩
      · exact choose_dataPort (find_oldest hw he hr hmin)
      · refine choose_scrubber (find_no_eligible hport) (find_oldest hw he (by simp [hr]) ?_)
        simpa using hmin
      · refine choose_channel (find_no_eligible hport) (find_no_eligible (by simpa using hscrub))
          (fun d hd => find_no_eligible (by simpa using hsooner d hd)) (find_oldest hw he (by simp [hr]) ?_)
        simpa using hmin
      · refine choose_inventory hw fun x hx => ?_
        rw [hw] at hx
        rcases List.mem_cons.1 hx with rfl | hx
        · exact hr
        · exact hall x hx
    rw [(exec_arbiterGrant hp).2 op hchoose, grant_eligible hw he]
    rfl

end

section
/-! The patrol scrubber's choice of a line, and the end of a scrub (R98, R110, R111, R115). -/

namespace Sys2Proof.Machine.WorkProofs

open Sys2Proof Sys2Proof.Machine Sys2Proof.Machine.Laws Sys2Proof.Machine.MapProofs
  Sys2Proof.Machine.FrameProofs Sys2Proof.Machine.ChannelProofs

section
variable {s : State} {f : FrameNo} {l : LineNo} {n : BitVec 16}

/-! ## The search for a frame in use -/

/-- R110: the next frame in use above the position's. -/
theorem searchScrub_above (hu : (s.frame f).state.inUse = true) (hf : s.scrub.frame < f)
    (hgap : ∀ g : FrameNo, s.scrub.frame < g → g < f → (s.frame g).state.inUse = false) :
    s.searchScrub = some (f, false) := by
  have hfind : (List.finRange 64).find?
      (fun g => decide (s.scrub.frame < g) && (s.frame g).state.inUse) = some f :=
    find_finRange_some.2 ⟨by simp [hf, hu], fun g hg => by
      simpa only [Bool.and_eq_false_imp, decide_eq_true_eq] using fun hlt => hgap g hlt hg⟩
  unfold State.searchScrub
  dsimp only
  rw [hfind]

theorem search_above_none (habove : ∀ g : FrameNo, s.scrub.frame < g → (s.frame g).state.inUse = false) :
    (List.finRange 64).find? (fun g => decide (s.scrub.frame < g) && (s.frame g).state.inUse) = none :=
  find_finRange_none.2 fun g => by
    simpa only [Bool.and_eq_false_imp, decide_eq_true_eq] using habove g

/-- R110: the lowest frame in use, past 63, where none above the position's is in use. -/
theorem searchScrub_round (hu : (s.frame f).state.inUse = true) (hf : f < s.scrub.frame)
    (habove : ∀ g : FrameNo, s.scrub.frame < g → (s.frame g).state.inUse = false)
    (hbelow : ∀ g : FrameNo, g < f → (s.frame g).state.inUse = false) :
    s.searchScrub = some (f, true) := by
  have hfind : (List.finRange 64).find?
      (fun g => decide (g < s.scrub.frame) && (s.frame g).state.inUse) = some f :=
    find_finRange_some.2 ⟨by simp [hf, hu], fun g hg => by simp [hbelow g hg]⟩
  unfold State.searchScrub
  dsimp only
  rw [search_above_none habove, hfind]
  rfl

theorem searchScrub_none (h : ∀ g : FrameNo, (s.frame g).state.inUse = false) : s.searchScrub = none := by
  have hfind : (List.finRange 64).find?
      (fun g => decide (g < s.scrub.frame) && (s.frame g).state.inUse) = none :=
    find_finRange_none.2 fun g => by simp [h g]
  unfold State.searchScrub
  dsimp only
  rw [search_above_none fun g _ => h g, hfind]
  rfl

/-! ## The line chosen -/

/-- The state as a scrub of a line begins, before its claim is asked for (R111). -/
def scrubAt (s : State) (f : FrameNo) (l : LineNo) (n : BitVec 16) : State :=
  { s with scrub := { s.scrub with frame := f, line := l, passCount := n, stage := .claiming } }

theorem chooseScrub_here (hu : (s.frame s.scrub.frame).state.inUse = true) :
    s.chooseScrub = (scrubAt s s.scrub.frame s.scrub.line s.scrub.passCount).askAndTest .scrubber
      ⟨s.scrub.frame, s.scrub.line⟩ := by
  rw [State.chooseScrub, if_pos hu]
  rfl

theorem chooseScrub_found {wrapped : Bool} (hu : (s.frame s.scrub.frame).state.inUse = false)
    (h : s.searchScrub = some (f, wrapped))
    (hn : n = if wrapped then s.scrub.passCount + 1 else s.scrub.passCount) :
    s.chooseScrub = (scrubAt s f 0 n).askAndTest .scrubber ⟨f, 0⟩ := by
  rw [State.chooseScrub, if_neg (by simp [hu]), h, hn]
  rfl

theorem chooseScrub_none (h : ∀ g : FrameNo, (s.frame g).state.inUse = false) :
    s.chooseScrub = { s with scrub := { s.scrub with expiryPending := false } } := by
  rw [State.chooseScrub, if_neg (by simp [h]), searchScrub_none h]

/-- R96, R111: the claim of a scrub granted at once. -/
theorem scrubAt_granted (h : freeForClaim s ⟨f, l⟩) :
    (scrubAt s f l n).askAndTest .scrubber ⟨f, l⟩ = (scrubAt s f l n).claimAndRead .scrubber ⟨f, l⟩ :=
  askAndTest_free h

theorem scrubAt_waits (h : s.lineFree ⟨f, l⟩ = false) :
    (scrubAt s f l n).askAndTest .scrubber ⟨f, l⟩ = (scrubAt s f l n).askClaim .scrubber ⟨f, l⟩ :=
  askAndTest_busy h

/-! ## The end of a scrub -/

/-- R98: the position stands while the scrubber's place is given up. -/
theorem releasePlace_scrubber_scrub (s : State) : (s.releasePlace .scrubber).scrub = s.scrub := by
  unfold State.releasePlace
  split
  · rfl
  · rfl
  · rw [(testRequests_keeps_scrubber (retranslateFold_keeps_empty _ (setPlace_place_self _ _ _))).2,
      retranslateFold_frame]
    rfl

theorem releasePlace_scrubber_frame (s : State) :
    s.releasePlace .scrubber = { s with
      ports := (s.releasePlace .scrubber).ports, places := (s.releasePlace .scrubber).places
      reqOrder := (s.releasePlace .scrubber).reqOrder, arbs := (s.releasePlace .scrubber).arbs } := by
  have h := releasePlace_frame s .scrubber
  rw [releasePlace_scrubber_scrub] at h
  exact h

/-- R115: the stage, the position and the pending expiry at the end of a scrub. -/
theorem finishScrub_eq {p : Scrubber} (h : MovesOn s.scrub p) :
    s.finishScrub = if s.scrub.expiryPending then
      { s with scrub := { p with expiryPending := false } }.chooseScrub else { s with scrub := p } := by
  obtain ⟨-, hpending, -⟩ := id h
  unfold State.finishScrub
  dsimp only
  rw [advance_of_movesOn h, hpending]

end

end Sys2Proof.Machine.WorkProofs

open Sys2Proof Sys2Proof.Machine Sys2Proof.Machine.Laws Sys2Proof.Machine.WorkProofs
  Sys2Proof.Machine.FrameProofs Sys2Proof.Machine.ChannelProofs

/-- Settles O41: the choice by where the frame in use stands to the position's; the end by the pending expiry. -/
theorem scrubsChooseClaimAndMoveOn : Obligations.ScrubsChooseClaimAndMoveOn := by
  refine ⟨fun s => ⟨chooseScrub_none, fun f l n hu hpos => ?_⟩, fun s t fl held p _ hmove ht => ?_⟩
  · have hchoose : s.chooseScrub = (scrubAt s f l n).askAndTest .scrubber ⟨f, l⟩ := by
      rcases hpos with ⟨rfl, rfl, rfl⟩ | ⟨hno, rfl, ⟨hf, rfl, hgap⟩ | ⟨hf, rfl, habove, hbelow⟩⟩
      · exact chooseScrub_here hu
      · exact chooseScrub_found hno (searchScrub_above hu hf hgap) rfl
      · exact chooseScrub_found hno (searchScrub_round hu hf habove hbelow) rfl
    rw [hchoose]
    refine ⟨fun hfree => ?_, fun hbusy => ?_⟩
    · rw [scrubAt_granted hfree, claimAndRead_scrubber]
      rfl
    · rw [scrubAt_waits hbusy]
      rfl
  · subst ht
    have hscrub := releasePlace_scrubber_scrub s
    have hend : s.endScrub = (s.releasePlace .scrubber).finishScrub := rfl
    rw [← hscrub] at hmove
    rw [hend, finishScrub_eq hmove, hscrub]
    exact ⟨releasePlace_scrubber_empty s, fun h i => (releasePlace_ports (fun j => h.held j .scrubber) i).1,
      releasePlace_scrubber_frame s, fun h => if_neg (by simp [h]), fun h => if_pos h⟩

end

section
/-! The scrub timer, and the opening and the end of an import session (R108, R109, R160, R162). -/

namespace Sys2Proof.Machine.SessionProofs

open Sys2Proof Sys2Proof.Machine Sys2Proof.Machine.Laws Sys2Proof.Machine.MapProofs

/-! ## The timer's microsecond -/

section
variable {s : State} {n : Nat}

theorem step_idle (h : s.pending = []) : step s = .next s.tick := by
  rw [step, h]

theorem tick_stopped (h : s.scrub.timer = none) : s.tick = s := by
  have hdue : s.timerDue = false := by rw [State.timerDue, h]
  rw [State.tick, hdue, h, Option.map_none, ← h]
  rfl

theorem tick_counts (h : s.scrub.timer = some n) (hn : n + 1 < s.policy.scrubInterval) :
    s.tick = { s with scrub := { s.scrub with timer := some (n + 1) } } := by
  have hdue : s.timerDue = false := by
    rw [State.timerDue, h]
    exact decide_eq_false (Nat.not_le.2 hn)
  rw [State.tick, hdue, h]
  rfl

theorem tick_due (h : s.scrub.timer = some n) (hn : s.policy.scrubInterval ≤ n + 1) :
    s.tick = { s with
      scrub := { s.scrub with timer := some 0 }
      pending := s.pending ++ [.scrubTimerExpiry] } := by
  have hdue : s.timerDue = true := by
    rw [State.timerDue, h]
    exact decide_eq_true hn
  rw [State.tick, hdue, h]
  rfl

/-! ## The timer's expiry -/

theorem exec_scrubTimerExpiry (hp : s.powered = true) :
    exec .scrubTimerExpiry s = .next (if s.scrub.timer.isSome then s.timerExpires else s) := by
  show Host.Outcome.next (s.whenOn _) = _
  rw [State.whenOn, if_pos hp]

theorem timerExpires_inFlight (h : s.scrub.stage ≠ .none) :
    s.timerExpires = { s with scrub := { s.scrub with timer := some 0, expiryPending := true } } :=
  if_neg h

theorem timerExpires_idle (h : s.scrub.stage = .none) :
    s.timerExpires = { s with scrub := { s.scrub with timer := some 0 } }.chooseScrub :=
  if_pos h

end

/-! ## Import sessions -/

section
variable {s : State} {w : CmdWord}

theorem exec_importBegin (s : State) :
    exec .importBegin s = .next (s.takeCommand (· == 0x60) importBeginCommand) := rfl
theorem exec_importAbort (s : State) :
    exec .importAbort s = .next (s.takeCommand (· == 0x63) importAbortCommand) := rfl
theorem exec_importEnd (s : State) :
    exec .importEnd s = .next (s.takeCommand (· == 0x62) importEndCommand) := rfl

theorem presentCount_eq (s : State) :
    s.presentCount = (List.finRange 64).countP fun f => decide ((s.frame f).state ≠ .absent) :=
  List.countP_congr fun f _ => by simp

/-- R160: the session that IMPORT_BEGIN opens. -/
theorem importBeginCommand_staged (hp : s.phase = .staged) (hl : s.locked = false) :
    importBeginCommand w s =
      ({ s with
          importS := some .opened, exportS := none, phase := .importing }.stopScrubber).done
        (word4 s.presentCount 0 0 0) 0 :=
  guarded_in (by simp [hp]) (.inr hl)

/-- R162: the session that IMPORT_ABORT abandons. -/
theorem importAbortCommand_importing (hp : s.phase = .importing) {e : ImportSession}
    (he : s.importS = some e) :
    importAbortCommand w s = ⟨.ok, word4 0 e.expected 0 0, 0, 0, s.endImport⟩ := by
  rw [importAbortCommand, guarded_in (by simp [hp]) (.inl rfl), he]
  rfl

end

end Sys2Proof.Machine.SessionProofs

open Sys2Proof Sys2Proof.Machine Sys2Proof.Machine.Laws Sys2Proof.Machine.MapProofs
  Sys2Proof.Machine.SessionProofs

/-- Settles O45: the microsecond by the timer and its interval, the expiry by the scrub in flight. -/
theorem theScrubTimerCountsAndExpires : Obligations.TheScrubTimerCountsAndExpires := by
  refine ⟨fun s hidle => ?_, fun s hp => ?_⟩
  · rw [step_idle hidle]
    refine ⟨fun h => by rw [tick_stopped h], fun n h => ⟨fun hn => by rw [tick_counts h hn], fun hn => ?_⟩⟩
    rw [tick_due h hn, hidle, List.nil_append]
  · rw [exec_scrubTimerExpiry hp]
    refine ⟨fun h => by simp [h], fun h hs => ?_, fun h hs => ?_⟩
    · rw [if_pos (Option.isSome_iff_ne_none.2 h), timerExpires_inFlight hs]
    · rw [if_pos (Option.isSome_iff_ne_none.2 h), timerExpires_idle hs]

/-- Settles O16: each command by its checks in order. -/
theorem importSessionsOpenAndAreAbandoned : Obligations.ImportSessionsOpenAndAreAbandoned := by
  intro s w rest
  refine ⟨fun ht => ⟨fun hp => ?_, fun hp hl => ?_, fun hp hl => ?_⟩, fun ht => ⟨fun hp => ?_, fun hp e he => ?_⟩⟩
  · exact refused_of_takes (exec_importBegin s) ht (guarded_out (by simpa using hp))
  · exact refused_of_takes (exec_importBegin s) ht (guarded_locked (by simp [hp]) hl)
  · rw [exec_of_takes (exec_importBegin s) ht (importBeginCommand_staged hp hl), presentCount_eq]
    rfl
  · exact refused_of_takes (exec_importAbort s) ht (guarded_out (by simpa using hp))
  · exact exec_of_takes (exec_importAbort s) ht
      (importAbortCommand_importing (s := { s with cmdQ := rest }) hp he)

end

section
/-! The inventory walk: the test of a frame line by line, and its verdict (R124, R125, R127, R128). -/

namespace Sys2Proof.Machine.WalkProofs

open Sys2Proof Sys2Proof.Machine Sys2Proof.Machine.Laws Sys2Proof.Machine.MapProofs
  Sys2Proof.Machine.ChannelProofs

section
variable {s : State} {k : Socket} {op : ModOp} {rest : List ModOp} {f : FrameNo} {l : LineNo}

/-! ## The walk's completions -/

theorem exec_inventoryWriteComplete (hp : s.powered = true) (hq : (s.arb k).port = op :: rest)
    (hr : op.req = .inventory) (ha : op.act ≠ .read) (hl : op.standing = .live)
    (hw : s.walk.frame = some f) :
    exec (.inventoryWriteComplete k) s = .next ((s.landed k op rest).walkWritten f) := by
  show Host.Outcome.next (s.whenOn _) = _
  rw [State.whenOn, if_pos hp, nextOp_of_port hq]
  dsimp only
  rw [hr, isWrite_iff.2 ha, hl, hw, complete_eq_landed hq]

theorem exec_inventoryReadOutcome (hp : s.powered = true) (hq : (s.arb k).port = op :: rest)
    (hr : op.req = .inventory) (ha : op.act = .read) (hl : op.standing = .live)
    (hw : s.walk.frame = some f) (o : ReadOutcome) :
    exec (.inventoryReadOutcome k o) s = .next ((s.landed k op rest).walkRead f o) := by
  show Host.Outcome.next (s.whenOn _) = _
  rw [State.whenOn, if_pos hp, nextOp_of_port hq]
  dsimp only
  rw [hr, ha, hl, hw, complete_eq_landed hq]

/-! ## Lines of the frame in test -/

theorem lineNo_of_eq {n : Nat} (h : l.val = n) : lineNo n = l := by
  subst h
  exact Fin.ext (Nat.mod_eq_of_lt l.isLt)

/-- R124: the inventory pattern, word by word. -/
theorem patternLine_of_words {pattern : Line} (h : ∀ w : WordIx, pattern[w] =
      BitVec.ofNat 64 (f.val % 16 * 4194304 + l.val * 256 + w.val * 8)) :
    patternLine ⟨f, l⟩ = pattern :=
  Vector.ext fun n hn => by simpa [patternLine, bytePos] using (h ⟨n, hn⟩).symm

theorem walkWritten_next (h : l.val = s.walk.line.val + 1) :
    s.walkWritten f = s.walkRequest f .write l := by
  have hlt : s.walk.line.val + 1 < Config.linesPerFrame := h ▸ l.isLt
  rw [State.walkWritten, if_pos hlt, lineNo_of_eq h]

theorem walkWritten_last (h : s.walk.line.val = 16383) :
    s.walkWritten f = s.walkRequest f .read 0 := by
  rw [State.walkWritten, h]
  rfl

/-- R125: the state once an outcome of the read pass is counted, before the walk goes on. -/
def outcomeCounted (s : State) (f : FrameNo) (o : ReadOutcome) : State :=
  { s with
    frames := s.frames.set f ((s.frame f).counted o)
    walk := { s.walk with failed := s.walk.failed || decide (o = .uncorrectable) } }

theorem walkRead_eq (s : State) (f : FrameNo) (o : ReadOutcome) :
    s.walkRead f o =
      if s.walk.line.val + 1 < Config.linesPerFrame then
        (outcomeCounted s f o).walkRequest f .read (lineNo (s.walk.line.val + 1))
      else (outcomeCounted s f o).testComplete f := by
  have hcount : (if o = .uncorrectable then
        { s.countOnly f o with walk := { (s.countOnly f o).walk with failed := true } }
      else s.countOnly f o) = outcomeCounted s f o := by
    rw [countOnly_eq, outcomeCounted]
    cases o <;> simp
  unfold State.walkRead
  dsimp only
  rw [hcount]
  rfl

theorem walkRead_next (h : l.val = s.walk.line.val + 1) (o : ReadOutcome) :
    s.walkRead f o = (outcomeCounted s f o).walkRequest f .read l := by
  have hlt : s.walk.line.val + 1 < Config.linesPerFrame := h ▸ l.isLt
  rw [walkRead_eq, if_pos hlt, lineNo_of_eq h]

theorem walkRead_last (h : s.walk.line.val = 16383) (o : ReadOutcome) :
    s.walkRead f o = (outcomeCounted s f o).testComplete f := by
  rw [walkRead_eq, h]
  rfl

/-! ## The verdict and the next frame -/

/-- R127: the record and the flags that the verdict leaves of a frame's record and the flags before it. -/
def Verdict (failed : Bool) (r r' : FrameRec) (before flags : BitVec 13) : Prop :=
  failed = true ∧ r' = { r with state := .retired, suspect := some .inventory } ∧
      flags = before ||| Flag.frameSuspect.mask ||| Flag.frameRetired.mask ∨
    failed = false ∧ r' = { r with state := .free } ∧ flags = before

theorem testVerdict_of_verdict {r' : FrameRec} {flags : BitVec 13}
    (h : Verdict s.walk.failed (s.frame f) r' s.flags flags) :
    s.testVerdict f =
      { s with frames := s.frames.set f r', flags := flags, generation := s.generation + 1 } := by
  rw [testVerdict_eq]
  rcases h with ⟨hfail, rfl, rfl⟩ | ⟨hfail, rfl, rfl⟩
  · simp only [State.testVerdict, hfail, if_true]
    rfl
  · simp [State.testVerdict, hfail, State.setFrameState, State.setFrame, State.bump]

/-- The search for the next frame looks at the frames above alone. -/
theorem nextUntested_congr {t : State} (h : ∀ g, f < g → t.frame g = s.frame g) :
    t.nextUntested f = s.nextUntested f := by
  refine congrArg (fun p => (List.finRange 64).find? p) (funext fun g => ?_)
  by_cases hg : f < g
  · rw [h g hg]
  · simp [hg]

theorem nextUntested_some {g : FrameNo} (hg : f < g) (hu : (s.frame g).state = .untested)
    (hgap : ∀ h : FrameNo, f < h → h < g → (s.frame h).state ≠ .untested) :
    s.nextUntested f = some g :=
  find_finRange_some.2 ⟨by simp [hg, hu], fun h hlt => by simpa using fun hf => hgap h hf hlt⟩

theorem nextUntested_none (h : ∀ g : FrameNo, f < g → (s.frame g).state ≠ .untested) :
    s.nextUntested f = none :=
  find_finRange_none.2 fun g => by simpa using h g

/-- The verdict on the last line's outcome, with the count of that outcome (R125, R127). -/
def verdictGiven (s : State) (f : FrameNo) (r' : FrameRec) (flags : BitVec 13) (failed : Bool) : State :=
  { s with
    frames := s.frames.set f r', flags := flags, generation := s.generation + 1
    walk := { s.walk with failed := failed } }

theorem outcomeCounted_testVerdict {o : ReadOutcome} {r' : FrameRec} {flags : BitVec 13}
    (h : Verdict (s.walk.failed || decide (o = .uncorrectable)) ((s.frame f).counted o) r' s.flags flags) :
    (outcomeCounted s f o).testVerdict f =
      verdictGiven s f r' flags (s.walk.failed || decide (o = .uncorrectable)) := by
  have hrec : (outcomeCounted s f o).frame f = (s.frame f).counted o :=
    (frame_set (s := s) rfl f).trans (if_pos rfl)
  rw [testVerdict_of_verdict (s := outcomeCounted s f o) (hrec ▸ h)]
  simp only [outcomeCounted, verdictGiven, Vector.set_set]

theorem verdictGiven_nextUntested (r' : FrameRec) (flags : BitVec 13) (failed : Bool) :
    (verdictGiven s f r' flags failed).nextUntested f = s.nextUntested f :=
  nextUntested_congr fun g hg => (frame_set (s := s) rfl g).trans (if_neg (ne_of_lt hg))

theorem testComplete_next {u : State} {g : FrameNo} (hu : s.testVerdict f = u)
    (hg : u.nextUntested f = some g) :
    s.testComplete f =
      { u with walk := { u.walk with frame := some g, failed := false } }.walkRequest g .write 0 := by
  unfold State.testComplete
  dsimp only
  rw [hu, hg]

theorem testComplete_last {u : State} (hu : s.testVerdict f = u) (hg : u.nextUntested f = none) :
    s.testComplete f = u.endWalk := by
  unfold State.testComplete
  dsimp only
  rw [hu, hg]

end

end Sys2Proof.Machine.WalkProofs

open Sys2Proof Sys2Proof.Machine Sys2Proof.Machine.Laws Sys2Proof.Machine.WalkProofs

/-- Settles O43: a completion by the line it is of, the last read's outcome by the verdict and the frames
above still to test. -/
theorem theInventoryTestsEachFrame : Obligations.TheInventoryTestsEachFrame := by
  refine ⟨fun s k op rest f hp hq hr ha hl hw => ?_,
    fun s k op rest f o r failed hp hq hr ha hl hw hcount hfailed => ?_⟩
  · rw [exec_inventoryWriteComplete hp hq hr ha hl hw]
    refine ⟨fun l pattern hline hwords => ?_, fun hline => ?_⟩
    · rw [walkWritten_next (s := s.landed k op rest) hline, ← patternLine_of_words hwords]
      rfl
    · rw [walkWritten_last (s := s.landed k op rest) hline]
      rfl
  · subst hcount hfailed
    rw [exec_inventoryReadOutcome hp hq hr ha hl hw o]
    refine ⟨fun l hline => ?_, fun hline r' flags hverdict => ?_⟩
    · rw [walkRead_next (s := s.landed k op rest) hline]
      rfl
    · have hgiven := outcomeCounted_testVerdict (s := s.landed k op rest) hverdict
      have hnext := verdictGiven_nextUntested (s := s.landed k op rest) (f := f) r' flags
        (s.walk.failed || decide (o = .uncorrectable))
      rw [walkRead_last (s := s.landed k op rest) hline]
      refine ⟨fun g hg hu hgap => ?_, fun hnone => ?_⟩
      · rw [testComplete_next hgiven (hnext.trans (nextUntested_some (s := s.landed k op rest) hg hu hgap))]
        rfl
      · rw [testComplete_last hgiven (hnext.trans (nextUntested_none (s := s.landed k op rest) hnone))]
        rfl

end

section
/-! The import commit: the record R166 gives each frame, and the map it builds (R166, R167). -/

namespace Sys2Proof.Machine.SessionProofs

open Sys2Proof Sys2Proof.Machine Sys2Proof.Machine.Laws Sys2Proof.Machine.MapProofs

section
variable {s : State} {e : ImportSession} {w : CmdWord}

/-! ## The checks before the commit -/

/-- R165: every frame that the image binds stands neither ABSENT nor RETIRED. -/
theorem disagrees_none (h : ∀ f : FrameNo, ¬((e.frame f).state = .bound ∧
      ((s.frame f).state = .absent ∨ (s.frame f).state = .retired))) :
    s.disagrees e = none := by
  refine Option.map_eq_none_iff.2 (find_finRange_none.2 fun f => Bool.eq_false_iff.2 fun hf => h f ?_)
  simpa using hf

/-- R163 to R165: what IMPORT_END answers once every check has passed. -/
theorem importEndCommand_commits (hp : s.phase = .importing) (he : s.importS = some e)
    (hn : e.expected = 114) (hc : e.received = some (~~~e.check)) (hi : e.inconsistent = none)
    (hd : s.disagrees e = none) :
    importEndCommand w s = (s.importCommit e).done
      (word4 ((List.finRange 48).countP fun i => (e.slice i).mapped)
        (s.importCommit e).spareQ.length (s.importCommit e).retireQ.length 0)
      (word2 ((e.header.map (·.generation.toNat)).getD 0) 0) := by
  rw [importEndCommand, guarded_in (by simp [hp]) (.inl rfl), he]
  dsimp only
  rw [State.importEnd, hn, hc, hi, hd]
  simp [Config.imageRecords]

/-! ## Frames -/

/-- R166: a cause INVENTORY is recorded as IMPORT, every other as it stands. -/
theorem asImported_eq (c : Cause) : c.asImported = if c = .inventory then .imported else c := by
  cases c <;> rfl

/-- R166's table, row by row of the image's record. -/
theorem importedFrame_committed {live : FrameRec} (img : ImgFrame) (ha : live.state ≠ .absent)
    (hs : live.state = .free → live.suspect = none) :
    CommittedFrame live (importedFrame live img) img := by
  rw [importedFrame, if_neg ha]
  refine ⟨rfl, rfl, fun h => ?_, fun h => ?_⟩
  · simp [importedState, h]
  · have hsus := hs h
    refine ⟨fun hi => ?_, fun hi hc => ?_, fun hi hc => ?_, fun c hi hc => ?_, fun i hi hb => ?_⟩
    · simp [importedState, h, hi, hsus]
    · simp [importedState, h, hi, hc, hsus]
    · simp [importedState, h, hi, hc, hsus]
    · rw [← asImported_eq]
      rcases hi with hi | hi | hi <;> simp [importedState, h, hi, hc]
    · simp +contextual [importedState, h, hi, hb, asImported_eq]

/-! ## Slices and queues -/

theorem importedSlice_unmapped {i : SliceNo} (h : (e.slice i).mapped = false) :
    (s.importedSlice e i).loc = (s.slice i).loc := by
  simp [State.importedSlice, h]

/-- R167: a mapped slice lies on the one frame that the image binds to it. -/
theorem importedSlice_mapped (hc : Consistent e) {i : SliceNo} {f : FrameNo}
    (hm : (e.slice i).mapped = true) (hf : (e.frame f).state = .bound) (hb : (e.frame f).bound = some i) :
    (s.importedSlice e i).loc = .mapped f := by
  have hfind : (List.finRange 64).find? (fun f => (e.frame f).binds i) = some f :=
    find_finRange_some.2 ⟨by simp [ImgFrame.binds, hf, hb], fun g hg => by
      simpa [ImgFrame.binds] using fun hg1 hg2 => hg.ne (hc.once g f i hg1 hg2 hf hb)⟩
  simp [State.importedSlice, hm, hfind]

/-- R166: the spares join in the image's order. -/
theorem importedSpares_ordered (s : State) (e : ImportSession) :
    (s.importedSpares e).Pairwise fun f g => ∀ p q, (e.frame f).sparePos = some p →
      (e.frame g).sparePos = some q → p < q := by
  rw [State.importedSpares, List.pairwise_filterMap]
  refine (List.pairwise_lt_finRange 64).imp fun {m n} hmn f hf g hg p q hp hq => ?_
  have hfm := (lowest_of_find_finRange hf).1
  have hgn := (lowest_of_find_finRange hg).1
  simp only [hp, hq, Bool.and_eq_true, beq_iff_eq, Option.some.injEq] at hfm hgn
  rw [hfm.1.1, hgn.1.1]
  exact hmn

/-! ## The commit as a whole -/

theorem frame_congr {t : State} (h : t.frames = s.frames) (f : FrameNo) : t.frame f = s.frame f := by
  simp only [State.frame, h]

theorem importTables_frame (s : State) (e : ImportSession) (f : FrameNo) :
    (s.importTables e).frame f = importedFrame (s.frame f) (e.frame f) := by
  simp [State.importTables, State.frame]

theorem importTables_slice (s : State) (e : ImportSession) (i : SliceNo) :
    (s.importTables e).slice i = s.importedSlice e i := by
  simp [State.importTables, State.slice]

theorem importTables_spareQ (e : ImportSession) (hq : s.spareQ = []) :
    (s.importTables e).spareQ = s.importedSpares e := by
  simp only [State.importTables, hq, List.nil_append]

/-- R167: the suspect BOUND frames of the new map, the lowest 8, are to be retired. -/
theorem importTables_retireQ (s : State) (e : ImportSession) :
    (s.importTables e).retireQ =
      ((List.finRange 64).filter fun f => decide ((s.importTables e).suspectBound f)).take 8 := by
  have hbound (f : FrameNo) : decide ((s.importTables e).suspectBound f) =
      ((importedFrame (s.frame f) (e.frame f)).state.isBound &&
        (importedFrame (s.frame f) (e.frame f)).suspect.isSome) := by
    simp only [State.suspectBound, importTables_frame, Bool.decide_and, Bool.decide_eq_true]
  simp only [hbound]
  simp only [State.importTables, State.importedRetires, Config.retireCapacity]

theorem raiseIf_eq (s : State) (b : Bool) (f : Flag) :
    s.raiseIf b f = { s with flags := s.flags ||| flagIf b f } := by
  cases b <;> simp [State.raiseIf, State.raise, flagIf]

/-- R167: the tables, the timer, the flags and the generation that the commit leaves. -/
theorem importCommit_fields_eq {suspects retires : Bool}
    (hs : suspects = true ↔ ∃ f : FrameNo,
      (s.frame f).suspect = none ∧ ((s.importTables e).frame f).suspect ≠ none)
    (hr : retires = true ↔ ∃ f : FrameNo,
      (s.frame f).state ≠ .retired ∧ ((s.importTables e).frame f).state = .retired) :
    s.importCommit e =
      { s.importTables e with
        scrub := { s.scrub with timer := if s.policy.scrubInterval = 0 then none else some 0 }
        generation := s.generation + (if s.mapChanged (s.importTables e) then 1 else 0)
        flags := s.flags ||| flagIf suspects .frameSuspect ||| flagIf retires .frameRetired } := by
  have hscrub : (s.importTables e).scrub = s.scrub := by rw [State.importTables]
  have hpolicy : (s.importTables e).policy = s.policy := by rw [State.importTables]
  have hflags : (s.importTables e).flags = s.flags := by rw [State.importTables]
  have hgen : (s.importTables e).generation = s.generation := by rw [State.importTables]
  unfold State.importCommit
  generalize s.importTables e = u at *
  have hsuspects : ((List.finRange 64).any fun f =>
      (s.frame f).suspect.isNone && (u.frame f).suspect.isSome) = suspects := by
    rw [Bool.eq_iff_iff, hs]
    simp [Option.isSome_iff_ne_none]
  have hretires : ((List.finRange 64).any fun f =>
      (s.frame f).state != .retired && (u.frame f).state == .retired) = retires := by
    rw [Bool.eq_iff_iff, hr]
    simp
  simp only [hsuspects, hretires, raiseIf_eq, bumpIf_eq, State.startScrubber, hscrub, hpolicy, hflags, hgen]

/-- R166, R167: the whole next state, by the four tables `u` that the commit lays down. -/
theorem exec_importEnd_commits {rest : List CmdWord} {u : State} (ht : Takes s 0x62 w rest)
    (hp : s.phase = .importing) (he : s.importS = some e) (hn : e.expected = 114)
    (hc : e.received = some (~~~e.check)) (hi : e.inconsistent = none) (hd : s.disagrees e = none)
    (hu : u = State.importTables { s with cmdQ := rest } e) :
    ∃ t, exec .importEnd s = .next t ∧ t.slices = u.slices ∧ t.frames = u.frames ∧
      t.spareQ = u.spareQ ∧ t.retireQ = u.retireQ ∧
      t = { s.answered w rest .ok
              (word4 ((List.finRange 48).countP fun i => (e.slice i).mapped)
                t.spareQ.length t.retireQ.length 0)
              (word2 ((e.header.map (·.generation.toNat)).getD 0) 0)
              (genWord t.generation) with
            slices := t.slices, frames := t.frames, spareQ := t.spareQ, retireQ := t.retireQ
            phase := .active
            importS := none
            scrub := { s.scrub with
              timer := if s.policy.scrubInterval = 0 then none else some 0 }
            generation := s.generation + (if s.mapChanged t then 1 else 0)
            flags := s.flags |||
              flagIf (decide (∃ f : FrameNo,
                (s.frame f).suspect = none ∧ (t.frame f).suspect ≠ none)) .frameSuspect |||
              flagIf (decide (∃ f : FrameNo,
                (s.frame f).state ≠ .retired ∧ (t.frame f).state = .retired)) .frameRetired } := by
  have hcommit := importCommit_fields_eq (s := { s with cmdQ := rest }) (e := e)
    decide_eq_true_iff decide_eq_true_iff
  have hexec := exec_of_takes (exec_importEnd s) ht
    (importEndCommand_commits (s := { s with cmdQ := rest }) hp he hn hc hi hd)
  have htables : u = { s with
      cmdQ := rest, slices := u.slices, frames := u.frames, spareQ := u.spareQ
      retireQ := u.retireQ, phase := .active, importS := none } := by
    rw [hu, State.importTables]
  rw [hcommit, ← hu] at hexec
  clear hcommit hu
  refine ⟨_, hexec, rfl, rfl, rfl, rfl, ?_⟩
  rw [htables]
  rfl

end

end Sys2Proof.Machine.SessionProofs

open Sys2Proof Sys2Proof.Machine Sys2Proof.Machine.Laws Sys2Proof.Machine.MapProofs
  Sys2Proof.Machine.SessionProofs

/-- Settles O19: the tables the commit builds are lawful, and so are the spare queue and the slices. -/
theorem importCommitBuildsTheMap : Obligations.ImportCommitBuildsTheMap := by
  intro s w rest e ht hlaws hp he hn hc hi hagree
  have hcons := Consistent.of_none hi
  have hd := disagrees_none hagree
  have htaken : SameMap s { s with cmdQ := rest } := by constructor <;> intros <;> rfl
  have htables := importTables_laws (s := { s with cmdQ := rest }) (htaken.laws hlaws) hp ht.1 hi hd
  have hframe (f : FrameNo) := importTables_frame { s with cmdQ := rest } e f
  have hslice (i : SliceNo) := importTables_slice { s with cmdQ := rest } e i
  have hspares := importTables_spareQ (s := { s with cmdQ := rest }) e (hlaws.spare.2.2 (by simp [hp]))
  have hretires := importTables_retireQ { s with cmdQ := rest } e
  obtain ⟨u, hu⟩ : ∃ u, u = State.importTables { s with cmdQ := rest } e := ⟨_, rfl⟩
  rw [← hu] at htables hspares hretires
  simp only [← hu] at hframe hslice
  obtain ⟨t, hexec, hslices, hframes, hspareQ, hretireQ, hnext⟩ :=
    exec_importEnd_commits ht hp he hn hc hi hd hu
  refine ⟨t, hexec, fun f hf => ?_, fun f hf => ?_,
    fun i => ⟨?_, ?_, fun hm => ?_, fun f hm hf hb => ?_⟩, fun f => ?_, ?_, ?_, hnext⟩
  · rw [frame_congr hframes, hframe]
    exact if_pos hf
  · rw [frame_congr hframes, hframe]
    exact importedFrame_committed (e.frame f) hf fun hfree =>
      notSuspect hlaws.suspect (by simp [hfree, FrameState.isBound]) (by simp [hfree])
  · rw [slice_congr hslices, hslice]
    rfl
  · rw [slice_congr hslices, hslice]
    rfl
  · rw [slice_congr hslices, hslice, importedSlice_unmapped hm]
    exact hlaws.phase (by simp [hp]) i
  · rw [slice_congr hslices, hslice, importedSlice_mapped hcons hm hf hb]
  · rw [hspareQ, frame_congr hframes]
    exact htables.spare.2.1 f
  · rw [hspareQ, hspares]
    exact importedSpares_ordered _ e
  · rw [hretireQ, hretires]
    simp only [State.suspectBound, frame_congr hframes]

end

section
/-! ADOPT_DEFAULT: where the FREE frames go, by their place in ascending number (R130, R131). -/

namespace Sys2Proof.Machine.BringUpProofs

open Sys2Proof Sys2Proof.Machine Sys2Proof.Machine.Laws Sys2Proof.Machine.MapProofs

section
variable {s : State} {k : Nat} {f : FrameNo}

theorem exec_adoptDefault (s : State) :
    exec .adoptDefault s = .next (s.takeCommand (· == 0x52) adoptDefaultCommand) := rfl

/-! ## Frames -/

/-- No frame is listed twice, so the frame listed at a place is at no other. -/
theorem freeFrames_idxOf (h : s.freeFrames[k]? = some f) : s.freeFrames.idxOf f = k := by
  obtain ⟨hk, rfl⟩ := List.getElem?_eq_some_iff.1 h
  exact (freeFrames_nodup s).idxOf_getElem k hk

theorem free_of_listed (h : s.freeFrames[k]? = some f) : (s.frame f).state = .free :=
  mem_freeFrames.1 (List.mem_of_getElem? h)

theorem adoptFrame_bound (h : s.freeFrames[k]? = some f) (hk : k < s.adoptCount) (h48 : k < 48) :
    s.adoptFrame f = .bound ⟨k, h48⟩ := by
  obtain rfl := freeFrames_idxOf h
  rw [State.adoptFrame, if_pos (free_of_listed h), dif_pos h48, if_pos hk]

theorem adoptFrame_spare (h : s.freeFrames[k]? = some f) (hk : s.adoptCount ≤ k) :
    s.adoptFrame f = .spare := by
  obtain rfl := freeFrames_idxOf h
  rw [State.adoptFrame, if_pos (free_of_listed h)]
  simp only [if_neg (Nat.not_lt.2 hk), dite_eq_ite, ite_self]

theorem adopt_frame_kept (h : (s.frame f).state ≠ .free) : s.adopt.frame f = s.frame f := by
  rw [adopt_frameRec, State.adoptFrame, if_neg h]

/-! ## Slices -/

theorem adoptSlice_mapped {i : SliceNo} (h : s.freeFrames[i.val]? = some f) (hi : i.val < s.adoptCount) :
    s.adoptSlice i = { loc := .mapped f, protect := false, domain := 0xF#4 } := by
  rw [State.adoptSlice, if_pos hi, h]

theorem adoptSlice_kept {i : SliceNo} (hi : s.adoptCount ≤ i.val) : s.adoptSlice i = s.slice i := by
  rw [State.adoptSlice, if_neg (Nat.not_lt.2 hi)]

/-! ## The command -/

/-- R9, R131: the generation advances by one if any frame was FREE. -/
theorem adopt_generation {g : BitVec 16}
    (hg : s.freeFrames = [] ∧ g = s.generation ∨ s.freeFrames ≠ [] ∧ g = s.generation + 1) :
    s.adopt.generation = g := by
  rw [State.adopt, bumpIf_eq]
  rcases hg with ⟨he, rfl⟩ | ⟨he, rfl⟩ <;> simp [he]

/-- R131: the tables, the spare queue, the phase and the generation are all that ADOPT_DEFAULT lays down. -/
theorem adopt_eq (s : State) :
    s.adopt = { s with
      slices := s.adopt.slices
      frames := s.adopt.frames
      spareQ := s.spareQ ++ s.freeFrames.drop s.adoptCount
      phase := .active
      generation := s.adopt.generation } := by
  rw [State.adopt, bumpIf_eq]

theorem adoptDefaultCommand_staged {w : CmdWord} (hp : s.phase = .staged) (hl : s.locked = false) :
    adoptDefaultCommand w s =
      s.adopt.done (word4 s.adoptCount (s.freeFrames.length - s.adoptCount) 0 0) 0 :=
  guarded_in (by simp [hp]) (.inr hl)

end

end Sys2Proof.Machine.BringUpProofs

open Sys2Proof Sys2Proof.Machine Sys2Proof.Machine.Laws Sys2Proof.Machine.MapProofs
  Sys2Proof.Machine.BringUpProofs

/-- Settles O14: the checks in order, then each table of the state that ADOPT_DEFAULT lays down. -/
theorem adoptDefaultLaysDownTheDefaultMap : Obligations.AdoptDefaultLaysDownTheDefaultMap := by
  intro s w rest ht
  refine ⟨fun hp => refused_of_takes (exec_adoptDefault s) ht (guarded_out (by simpa using hp)),
    fun hp hl => refused_of_takes (exec_adoptDefault s) ht (guarded_locked (by simp [hp]) hl),
    fun hp hl free n g hfree hn hg => ?_⟩
  let u : State := { s with cmdQ := rest }
  obtain rfl : free = u.freeFrames := hfree
  obtain rfl : n = u.adoptCount := hn
  obtain rfl : u.adopt.generation = g := adopt_generation hg
  refine ⟨_, exec_of_takes (exec_adoptDefault s) ht (adoptDefaultCommand_staged (s := u) hp hl),
    fun k f hk hkn h48 => ⟨?_, ?_⟩, fun k f hk hkn => ?_, fun f hf => adopt_frame_kept (s := u) hf,
    fun i hi => (adopt_slice u i).trans (adoptSlice_kept hi), ?_⟩
  · exact (adopt_frameRec u f).trans (by rw [adoptFrame_bound hk hkn h48]; rfl)
  · exact (adopt_slice u ⟨k, h48⟩).trans (adoptSlice_mapped hk hkn)
  · exact (adopt_frameRec u f).trans (by rw [adoptFrame_spare hk hkn]; rfl)
  · exact congrArg (fun t : State =>
      (t.done (word4 u.adoptCount (u.freeFrames.length - u.adoptCount) 0 0) 0).respond w) (adopt_eq u)

end

section
/-! Power-good low, and the requests for a warm restart (R122, R133, R183). -/

namespace Sys2Proof.Machine.BringUpProofs

open Sys2Proof Sys2Proof.Machine

variable {s : State}

/-- While power-good is low the part does nothing (R122). -/
theorem whenOn_unpowered {t : State} (h : s.powered = false) : s.whenOn t = s := by
  simp [State.whenOn, h]

theorem whenOn_powered {t : State} (h : s.powered = true) : s.whenOn t = t := if_pos h

/-- Every command but the power events and the warm-restart input acts only while power-good is high. -/
theorem exec_eq_whenOn (s : State) {c : Instr} (hc : isPowerEvent c = false)
    (hpin : ∀ active, c ≠ .warmRestartInput active) : ∃ t, exec c s = .next (s.whenOn t) := by
  cases c with
  | powerOnReset codes => cases hc
  | powerGoodFall => cases hc
  | warmRestartInput active => exact absurd rfl (hpin active)
  | _ => exact ⟨_, rfl⟩

theorem exec_unpowered {c : Instr} (h : s.powered = false) (hc : isPowerEvent c = false)
    (hpin : ∀ active, c ≠ .warmRestartInput active) : exec c s = .next s := by
  obtain ⟨t, ht⟩ := exec_eq_whenOn s hc hpin
  rw [ht, whenOn_unpowered h]

theorem exec_warmRestartInput (s : State) (active : Bool) :
    exec (.warmRestartInput active) s = .next
      { s with
        warmPin := active
        warmReq := if s.powered && active && !s.warmPin then s.warmReq + 1 else s.warmReq } := rfl

/-- Without power, and without a transition to active, the input's level changes and no request is made. -/
theorem exec_warmRestartInput_quiet {active : Bool}
    (h : s.powered = false ∨ active = false ∨ s.warmPin = true) :
    exec (.warmRestartInput active) s = .next { s with warmPin := active } := by
  rw [exec_warmRestartInput]
  rcases h with h | h | h <;> simp [h]

theorem exec_warmRestartInput_asks (hp : s.powered = true) (hpin : s.warmPin = false) :
    exec (.warmRestartInput true) s = .next { s with warmPin := true, warmReq := s.warmReq + 1 } := by
  simp [exec_warmRestartInput, hp, hpin]

theorem exec_warmRestart_unasked (h : s.warmReq = 0) : exec .warmRestart s = .next s := by
  show Host.Outcome.next (s.whenOn (if 0 < s.warmReq then s.restart else s)) = _
  rw [if_neg (by omega), State.whenOn, ite_self]

end Sys2Proof.Machine.BringUpProofs

open Sys2Proof Sys2Proof.Machine Sys2Proof.Machine.BringUpProofs

/-- Settles O21: without power by what `whenOn` gates, with power by the input's transitions. -/
theorem powerAndRestartRequests : Obligations.PowerAndRestartRequests := by
  refine ⟨⟨fun s => ⟨_, rfl, rfl⟩, fun s h => ⟨?_, ?_, fun a r => ?_, fun active => ?_,
    fun c hc hpin => exec_unpowered h hc hpin⟩⟩,
    fun s hp => ⟨exec_warmRestartInput_asks hp, fun hpin => ?_, ?_, exec_warmRestart_unasked⟩⟩
  · simp [State.attn, h]
  · simp [State.fault, h]
  · simp [State.apertureRead, h]
  · exact exec_warmRestartInput_quiet (.inl h)
  · rw [exec_warmRestartInput_quiet (.inr (.inr hpin)), ← hpin]
  · exact exec_warmRestartInput_quiet (.inr (.inl rfl))

end

section
/-! Writes at the aperture: the accesses it serves, and the effect of each register (R133, R138, R139,
R145, R171, R173, R174, R177). -/

namespace Sys2Proof.Machine.BringUpProofs

open Sys2Proof Sys2Proof.Machine

variable {s : State}

/-! ## Accesses -/

/-- R177: the one access served is 32 bits wide, aligned and from initiator 0. -/
theorem servedAccess_iff {a : BusAccess} : servedAccess a = true ↔ a = servedBy0 := by
  obtain ⟨i, wide, aligned⟩ := a
  simp [servedAccess, servedBy0, and_assoc]

theorem not_servedAccess {a : BusAccess} (h : a ≠ servedBy0) : ¬servedAccess a = true :=
  mt servedAccess_iff.1 h

theorem apertureWrite_served (hp : s.powered = true) (effect : State → State) :
    s.apertureWrite servedBy0 effect = { effect s with apReply := some .okay } :=
  (whenOn_powered hp).trans (if_pos (servedAccess_iff.2 rfl))

theorem apertureWrite_denied {a : BusAccess} (hp : s.powered = true) (h : a ≠ servedBy0)
    (effect : State → State) : s.apertureWrite a effect = { s with apReply := some .denied } :=
  (whenOn_powered hp).trans (if_neg (not_servedAccess h))

theorem apertureRead_denied {a : BusAccess} (hp : s.powered = true) (h : a ≠ servedBy0) (r : ApReg) :
    s.apertureRead a r = some (.denied, none) :=
  (if_pos hp).trans (if_neg (not_servedAccess h))

/-- A write that the aperture serves leaves its register's effect. -/
theorem exec_of_served {c : Instr} {effect : State → State} {t : State} (hp : s.powered = true)
    (hx : exec c s = .next (s.apertureWrite servedBy0 effect)) (ht : effect s = t) :
    exec c s = .next { t with apReply := some .okay } := by
  rw [hx, apertureWrite_served hp, ht]

theorem exec_of_denied {c : Instr} {a : BusAccess} {effect : State → State} (hp : s.powered = true)
    (ha : a ≠ servedBy0) (hx : exec c s = .next (s.apertureWrite a effect)) :
    exec c s = .next { s with apReply := some .denied } := by
  rw [hx, apertureWrite_denied hp ha]

/-! ## Effects -/

theorem submit_appends (h : s.cmdQ.length < 8) :
    s.submit = { s with cmdQ := s.cmdQ ++ [s.staging] } := if_pos h

theorem submit_overruns (h : 8 ≤ s.cmdQ.length) :
    s.submit = { s with flags := s.flags ||| Flag.cmdOverrun.mask } := if_neg (Nat.not_lt.2 h)

/-- R171: a one clears its flag, a zero leaves it. -/
theorem clearedFlags_bit (flags : BitVec 13) (v : Word32) {n : Nat} (hn : n < 13) :
    (flags &&& ~~~(v.truncate 13)).getLsbD n = (flags.getLsbD n && !v.getLsbD n) := by
  simp [hn]

theorem truncated_bit (v : Word32) {n : Nat} (hn : n < 13) :
    (v.truncate 13).getLsbD n = v.getLsbD n := by
  simp [hn]

theorem exec_rspPop_served (hp : s.powered = true) (v : Word32) :
    exec (.rspPop servedBy0 v) s = .next { s with rspQ := s.rspQ.tail, apReply := some .okay } :=
  exec_of_served (t := { s with rspQ := s.rspQ.tail }) hp rfl rfl

theorem exec_eventsWrite_served (hp : s.powered = true) (v : Word32) :
    exec (.eventsWrite servedBy0 v) s =
      .next { s with flags := s.flags &&& ~~~(v.truncate 13), apReply := some .okay } :=
  exec_of_served (t := s.clearFlags (v.truncate 13)) hp rfl rfl

theorem exec_eventEnableWrite_served (hp : s.powered = true) (v : Word32) :
    exec (.eventEnableWrite servedBy0 v) s =
      .next { s with eventEnable := v.truncate 13, apReply := some .okay } :=
  exec_of_served (t := { s with eventEnable := v.truncate 13 }) hp rfl rfl

theorem exec_faultEnableWrite_served (hp : s.powered = true) (v : Word32) :
    exec (.faultEnableWrite servedBy0 v) s =
      .next { s with faultEnable := v.getLsbD 0, apReply := some .okay } :=
  exec_of_served (t := { s with faultEnable := v.getLsbD 0 }) hp rfl rfl

/-- R138: a staging register takes the value. -/
theorem exec_stagingWrite_served (hp : s.powered = true) (n : Fin 4) (v : Word32) :
    exec (.registerWrite servedBy0 (.cmd n) v) s =
      .next { s with staging := putStaging s.staging n v, apReply := some .okay } :=
  exec_of_served (t := { s with staging := putStaging s.staging n v }) hp rfl rfl

theorem writePlain_readOnly {r : PlainReg} (h : ∀ n, r ≠ .cmd n) (v : Word32) : s.writePlain r v = s := by
  cases r with
  | cmd n => exact absurd rfl (h n)
  | ident | qstat | rsp n => rfl

end Sys2Proof.Machine.BringUpProofs

open Sys2Proof Sys2Proof.Machine Sys2Proof.Machine.BringUpProofs

/-- Settles O23: each register's effect by its own rule, every other access by the one that denies it. -/
theorem apertureWritesAreServedOrDenied : Obligations.ApertureWritesAreServedOrDenied := by
  refine ⟨fun s v hp => ⟨fun h => ?_, fun h => ?_, fun h => ?_, fun r q h => ?_,
      ⟨_, exec_eventsWrite_served hp v, fun n hn => clearedFlags_bit s.flags v hn⟩,
      ⟨_, exec_eventEnableWrite_served hp v, fun n hn => truncated_bit v hn⟩,
      exec_faultEnableWrite_served hp v, fun h => ?_, fun h => ?_, exec_stagingWrite_served hp 0 v,
      exec_stagingWrite_served hp 1 v, exec_stagingWrite_served hp 2 v, exec_stagingWrite_served hp 3 v,
      fun r h => ?_⟩,
    fun s a v hp ha => ⟨?_, fun r => exec_of_denied hp ha rfl, apertureRead_denied hp ha⟩⟩
  · exact exec_of_served hp rfl (submit_appends h)
  · exact exec_of_served hp rfl (submit_overruns h)
  · rw [exec_rspPop_served hp, h, List.tail_nil]
  · rw [exec_rspPop_served hp, h, List.tail_cons]
  · exact exec_of_served (t := { s with warmReq := s.warmReq + 1 }) hp rfl (if_pos h)
  · exact exec_of_served (t := s) hp rfl (if_neg h)
  · exact exec_of_served (t := s) hp rfl (writePlain_readOnly h v)
  · simp only [List.forall_mem_cons]
    exact ⟨exec_of_denied hp ha rfl, exec_of_denied hp ha rfl, exec_of_denied hp ha rfl, exec_of_denied hp ha rfl,
      exec_of_denied hp ha rfl, exec_of_denied hp ha rfl, nofun⟩

end

section
/-! SET_POLICY: the record it writes, and what a changed interval does to the scrub timer (R118, R151). -/

namespace Sys2Proof.Machine.PolicyProofs

open Sys2Proof Sys2Proof.Machine

variable {w : CmdWord} {s : State} {p : Policy}

theorem exec_setPolicy (s : State) :
    exec .setPolicy s = .next (s.takeCommand (· == 0x50) setPolicyCommand) := rfl

/-! ## The record in the word (R179) -/

theorem argPolicy_out
    (h : 1 < byteOf w.cmd1 0 ∨ byteOf w.cmd1 1 = 0 ∨ 63 < byteOf w.cmd1 2 ∨ 16 < byteOf w.cmd1 3) :
    argPolicy w = none := if_neg (by omega)

theorem argPolicy_of_fields (hauto : byteOf w.cmd1 0 = p.autoRetire.toNat)
    (hthreshold : byteOf w.cmd1 1 = p.threshold) (hlow : byteOf w.cmd1 2 = p.spareLow)
    (hreserve : byteOf w.cmd1 3 = p.defaultReserve) (hinterval : lowHalf w.cmd2 = p.scrubInterval)
    (hpos : p.threshold ≠ 0) (h63 : p.spareLow ≤ 63) (h16 : p.defaultReserve ≤ 16) :
    argPolicy w = some p := by
  have hbit : decide (p.autoRetire.toNat = 1) = p.autoRetire := by cases p.autoRetire <;> rfl
  simp only [argPolicy, hauto, hthreshold, hlow, hreserve, hinterval, hbit]
  exact if_pos ⟨Bool.toNat_le _, hpos, h63, h16⟩

/-! ## The scrub timer (R118) -/

/-- Out of STAGED and ACTIVE, or with the interval as it was, the timer runs on. -/
theorem setPolicyCommand_keepsTimer (harg : argPolicy w = some p)
    (h : ¬inService s ∨ p.scrubInterval = s.policy.scrubInterval) :
    setPolicyCommand w s = State.done { s with policy := p } s.policy.word1 s.policy.word2 := by
  rcases h with h | h <;> simp [setPolicyCommand, harg, State.inPhase, State.followInterval, h]

theorem setPolicyCommand_stopsTimer (harg : argPolicy w = some p) (hs : inService s)
    (hne : p.scrubInterval ≠ s.policy.scrubInterval) (hzero : p.scrubInterval = 0) :
    setPolicyCommand w s =
      (State.stopScrubber { s with policy := p }).done s.policy.word1 s.policy.word2 := by
  rw [hzero] at hne
  simp [setPolicyCommand, harg, State.inPhase, State.followInterval, hs, hne, hzero]

theorem setPolicyCommand_startsTimer (harg : argPolicy w = some p) (hs : inService s)
    (hne : p.scrubInterval ≠ s.policy.scrubInterval) (hpos : p.scrubInterval ≠ 0) :
    setPolicyCommand w s = State.done
      { s with policy := p, scrub := { s.scrub with timer := some 0 } }
      s.policy.word1 s.policy.word2 := by
  simp [setPolicyCommand, harg, State.inPhase, State.followInterval, State.startScrubber, hs, hne, hpos]

end Sys2Proof.Machine.PolicyProofs

open Sys2Proof Sys2Proof.Machine Sys2Proof.Machine.MapProofs Sys2Proof.Machine.PolicyProofs

/-- Settles O13: the record the word carries, then what its interval does to the timer. -/
theorem setPolicyWritesTheWholeRecord : Obligations.SetPolicyWritesTheWholeRecord := by
  intro s w rest ht
  refine ⟨fun h => refused_of_takes (exec_setPolicy s) ht (by rw [setPolicyCommand, argPolicy_out h]),
    fun p timer pending hauto hthreshold hpos hlow h63 hreserve h16 hinterval hcase => ?_⟩
  have harg := argPolicy_of_fields hauto hthreshold hlow hreserve hinterval hpos h63 h16
  rcases hcase with ⟨hkeep, rfl, rfl⟩ | ⟨hs, hne, hzero, rfl, rfl⟩ | ⟨hs, hne, hrun, rfl, rfl⟩
  · exact exec_of_takes (exec_setPolicy s) ht (setPolicyCommand_keepsTimer harg hkeep)
  · exact exec_of_takes (exec_setPolicy s) ht (setPolicyCommand_stopsTimer harg hs hne hzero)
  · exact exec_of_takes (exec_setPolicy s) ht (setPolicyCommand_startsTimer harg hs hne hrun)

end

section
/-! Reads at the aperture, the thirteen flags and the two outputs (R140, R144, R170 to R178). -/

namespace Sys2Proof.Machine.ApertureProofs

open Sys2Proof Sys2Proof.Machine Sys2Proof.Machine.MapProofs Sys2Proof.Machine.BringUpProofs

variable {s : State}

/-! ## Registers -/

/-- R176: the sixteen words below offset 64 are the sixteen registers. -/
theorem apRegAt_isSome (k : Fin 16) : (apRegAt (4 * k.val)).isSome = true := by
  revert k; decide

theorem exists_apRegAt {off : Nat} (h : off < 64) (haligned : off % 4 = 0) :
    ∃ r, apRegAt off = some r := by
  have hk := apRegAt_isSome ⟨off / 4, by omega⟩
  rwa [Nat.mul_div_cancel' (Nat.dvd_of_mod_eq_zero haligned), Option.isSome_iff_exists] at hk

/-- What a served read at a byte offset returns. -/
def readAt (s : State) (off : Nat) : Word32 := ((apRegAt off).map s.readReg).getD 0

theorem apertureRead_readAt (hp : s.powered = true) {off : Nat} {r : ApReg} (h : apRegAt off = some r) :
    s.apertureRead servedBy0 r = some (.okay, some (readAt s off)) := by
  simp [State.apertureRead, servedAccess_iff, hp, readAt, h]

theorem qstat_bytes (hc : s.cmdQ.length ≤ 8) (hr : s.rspQ.length ≤ 8) :
    byteOf s.qstat 0 = 8 - s.cmdQ.length ∧ byteOf s.qstat 1 = s.rspQ.length ∧
      byteOf s.qstat 2 = (if s.flagSet .cmdOverrun then 1 else 0) ∧ byteOf s.qstat 3 = 0 := by
  have hflag := Bool.toNat_le (s.flagSet .cmdOverrun)
  have hoverrun : (s.flagSet .cmdOverrun).toNat = if s.flagSet .cmdOverrun then 1 else 0 := by
    cases s.flagSet .cmdOverrun <;> rfl
  rw [← hoverrun]
  exact byteOf_word4 (show 8 - s.cmdQ.length < 256 by omega) (by omega) (by omega) (by omega)

theorem rspWord_empty (h : s.rspQ = []) (n : Fin 4) : s.rspWord n = 0 := by
  unfold State.rspWord
  rw [h]

/-- R144: RSP0 to RSP3 show the head of the response queue. -/
theorem rspWord_cons {r : Response} {q : List Response} (h : s.rspQ = r :: q) :
    s.rspWord 0 = word4 r.tag.toNat r.code.toNat r.status.code 0x80 ∧
      s.rspWord 1 = r.rsp1 ∧ s.rspWord 2 = r.rsp2 ∧ s.rspWord 3 = r.rsp3 := by
  unfold State.rspWord
  rw [h]
  exact ⟨rfl, rfl, rfl, rfl⟩

theorem status_code_lt (st : Status) : st.code < 256 := by cases st <;> decide

theorem rspWord_head {r : Response} {q : List Response} (h : s.rspQ = r :: q) :
    byteOf (s.rspWord 0) 0 = r.tag.toNat ∧ byteOf (s.rspWord 0) 1 = r.code.toNat ∧
      byteOf (s.rspWord 0) 2 = r.status.code ∧ byteOf (s.rspWord 0) 3 = 0x80 ∧
      s.rspWord 1 = r.rsp1 ∧ s.rspWord 2 = r.rsp2 ∧ s.rspWord 3 = r.rsp3 := by
  obtain ⟨hhead, hwords⟩ := rspWord_cons h
  obtain ⟨htag, hcode, hstatus, hvalid⟩ :=
    byteOf_word4 r.tag.isLt r.code.isLt (status_code_lt r.status) (show 0x80 < 256 by decide)
  rw [hhead]
  exact ⟨htag, hcode, hstatus, hvalid, hwords⟩

/-- R178: a set of flags is read in bits 12 to 0, and the bits above are zero. -/
theorem flagWord_bit (v : BitVec 13) (n : Nat) :
    (v.zeroExtend 32).getLsbD n = (decide (n < 13) && v.getLsbD n) := by
  by_cases h : n < 13
  · have h32 : n < 32 := by omega
    simp [h, h32]
  · have habove : v.getLsbD n = false := BitVec.getLsbD_of_ge v n (Nat.le_of_not_lt h)
    simp [habove]

theorem toNat_boolWord (b : Bool) : (BitVec.ofNat 32 b.toNat).toNat = b.toNat := by cases b <;> rfl

/-! ## Flags -/

/-- The thirteen flags in R178's order. -/
def flagOrder : List Flag :=
  [.responseReady, .cmdOverrun, .migDone, .migAborted, .frameSuspect, .frameRetired, .spareLow,
    .spareEmpty, .poisonAdded, .poisonFull, .uncorrectable, .inventoryDone, .warmStart]

theorem flagOrder_bits : flagOrder.map Flag.bit = List.range 13 := rfl

theorem exists_flag_bit {n : Nat} (h : n < 13) : ∃ f : Flag, f.bit = n := by
  rw [← List.mem_range, ← flagOrder_bits, List.mem_map] at h
  obtain ⟨f, -, hf⟩ := h
  exact ⟨f, hf⟩

/-- RESPONSE_READY is bit 0 and no other flag is. -/
theorem flag_bit_eq_zero {f : Flag} : f.bit = 0 ↔ f = .responseReady := by cases f <;> decide

/-- R170: over the sticky flags, RESPONSE_READY shows whether a response waits. -/
theorem events_bit (s : State) (n : Nat) :
    s.events.getLsbD n = (s.flags.getLsbD n || decide (n = 0 ∧ s.rspQ ≠ [])) := by
  rw [State.events, BitVec.getLsbD_or]
  cases s.rspQ with
  | nil => simp
  | cons r q => simp [Flag.mask, Flag.bit, BitVec.getLsbD_twoPow, eq_comm]

theorem flagSet_responseReady (hlevel : s.flags.getLsbD 0 = false) :
    s.flagSet .responseReady = true ↔ s.rspQ ≠ [] := by
  rw [State.flagSet, events_bit, show Flag.responseReady.bit = 0 from rfl, hlevel]
  simp

theorem flagSet_sticky {f : Flag} (h : f ≠ .responseReady) : s.flagSet f = s.flags.getLsbD f.bit := by
  rw [State.flagSet, events_bit]
  simp [flag_bit_eq_zero, h]

/-! ## Outputs -/

theorem ne_zero_iff_getLsbD {v : BitVec 13} : v ≠ 0 ↔ ∃ f : Flag, v.getLsbD f.bit = true := by
  refine ⟨fun h => ?_, fun ⟨f, hf⟩ h => ?_⟩
  · by_contra hall
    refine h (BitVec.eq_of_getLsbD_eq fun n hn => ?_)
    obtain ⟨f, rfl⟩ := exists_flag_bit hn
    simpa using not_exists.1 hall f
  · simp [h] at hf

/-- R173: ATTN follows the enabled flags. -/
theorem attn_iff (hp : s.powered = true) :
    s.attn = true ↔ ∃ f : Flag, s.flagSet f = true ∧ s.eventEnable.getLsbD f.bit = true := by
  rw [State.attn, hp, Bool.true_and, decide_eq_true_iff, ne_zero_iff_getLsbD]
  simp only [BitVec.getLsbD_and, Bool.and_eq_true, State.flagSet]

theorem fault_iff (hp : s.powered = true) :
    s.fault = true ↔ s.flagSet .uncorrectable = true ∧ s.faultEnable = true := by
  rw [State.fault, hp, Bool.true_and, Bool.and_eq_true]

end Sys2Proof.Machine.ApertureProofs

open Sys2Proof Sys2Proof.Machine Sys2Proof.Machine.ApertureProofs

/-- Settles O24: each register by its own lemma, then the flags by their bits and the outputs by the flags. -/
theorem registersAndOutputsShowTheState : Obligations.RegistersAndOutputsShowTheState := by
  refine ⟨fun s hp hc hr => ⟨readAt s, fun off r => apertureRead_readAt hp, fun off => exists_apRegAt,
      rfl, rfl, rfl, rfl, rfl, qstat_bytes hc hr, fun r q => rspWord_head,
      fun h => ⟨rspWord_empty h 0, rspWord_empty h 1, rspWord_empty h 2, rspWord_empty h 3⟩,
      flagWord_bit s.events, flagWord_bit s.eventEnable, toNat_boolWord s.faultEnable, rfl, rfl, rfl⟩,
    flagOrder_bits, fun s hp hlevel => ⟨flagSet_responseReady hlevel, fun f => flagSet_sticky, attn_iff hp,
      fault_iff hp⟩⟩

end

section
/-! A step with a command waiting. -/

open Sys2Proof Sys2Proof.Machine

/-- Settles O44: the step's own case for a command at the front. -/
theorem stepRunsTheFrontCommand : Obligations.StepRunsTheFrontCommand := by
  intro c rest s h
  rw [step, h]

end

section
/-! Image records as eight bytes: what a record that is offered spells, and what an exported record is
made of (R154, R155, R159, R182). -/

namespace Sys2Proof.Machine.ImageProofs

open Sys2Proof Sys2Proof.Machine Sys2Proof.Machine.Laws Sys2Proof.Machine.MapProofs

/-! ## Fields of a record (R182) -/

/-- R180's code of a frame state that an image can hold. -/
def imgStateCode : ImgState → Nat
  | .absent => 0
  | .free => 2
  | .spare => 3
  | .bound => 4
  | .retired => 6

theorem argImgState_eq_some {b : Nat} {st : ImgState} :
    argImgState b = some st ↔ b = imgStateCode st := by
  constructor
  · intro h
    unfold argImgState at h
    split at h <;> cases h <;> rfl
  · rintro rfl
    cases st <;> rfl

theorem argCause_eq_some {b : Nat} {c : Option Cause} : argCause b = some c ↔ b = causeCode c := by
  constructor
  · intro h
    unfold argCause at h
    split at h <;> cases h <;> rfl
  · rintro rfl
    rcases c with _ | c
    · rfl
    · cases c <;> rfl

theorem argSlice_eq_some {b : Nat} {i : SliceNo} : argSlice b = some i ↔ b = i.val := by
  refine ⟨fun h => ?_, argSlice_of_eq⟩
  obtain ⟨_, h⟩ := Option.dite_none_right_eq_some.1 h
  exact congrArg Fin.val (Option.some.inj h)

theorem argFrame_eq_some {b : Nat} {f : FrameNo} : argFrame b = some f ↔ b = f.val := by
  refine ⟨fun h => ?_, argFrame_of_eq⟩
  obtain ⟨_, h⟩ := Option.dite_none_right_eq_some.1 h
  exact congrArg Fin.val (Option.some.inj h)

/-- A byte that holds a number below 255, or 0xFF for none. -/
theorem argOrNone_eq_some {n b : Nat} {parse : Nat → Option (Fin n)} (hn : n ≤ 255)
    (hparse : ∀ x : Fin n, parse b = some x ↔ b = x.val) {o : Option (Fin n)} :
    argOrNone parse b = some o ↔ b = orNone (o.map Fin.val) := by
  unfold argOrNone
  split
  · next hb =>
    rcases o with _ | x
    · simpa [orNone] using hb
    · exact iff_of_false nofun (by simp only [Option.map_some, orNone]; omega)
  · next hb =>
    rcases o with _ | x
    · simpa [orNone] using hb
    · simp [orNone, hparse x]

/-- R182: the eight bytes are those of the record, each field in its range. -/
def Spells (img : Word64) : ImgRecord → Prop
  | .header h =>
    recByte img 0 = 1 ∧ recByte img 1 = 1 ∧ recByte img 2 ≤ 64 ∧
      h = { present := recByte img 2
            generation := BitVec.ofNat 16 (recByte img 4 * 256 + recByte img 5) }
  | .frame f r =>
    recByte img 0 = 2 ∧ recByte img 1 = f.val ∧ recByte img 2 = imgStateCode r.state ∧
      recByte img 3 = orNone (r.bound.map Fin.val) ∧
      recByte img 4 = orNone (r.sparePos.map Fin.val) ∧ recByte img 5 = causeCode r.suspect ∧
      recByte img 6 = r.corrected ∧ recByte img 7 = r.uncorrectable
  | .slice i r =>
    recByte img 0 = 3 ∧ recByte img 1 = i.val ∧
      (recByte img 2 ≤ 1 ∧ recByte img 3 ≤ 1 ∧ recByte img 4 < 16) ∧
      r = { mapped := decide (recByte img 2 = 1), protect := decide (recByte img 3 = 1)
            domain := BitVec.ofNat 4 (recByte img 4) }
  | .trailer c => recByte img 0 = 4 ∧ c = img.extractLsb' 0 32

theorem argFrameRecord_eq_some {b : Nat → Nat} {r : ImgRecord} :
    argFrameRecord b = some r ↔ ∃ f x, r = .frame f x ∧
      b 1 = f.val ∧ b 2 = imgStateCode x.state ∧ b 3 = orNone (x.bound.map Fin.val) ∧
      b 4 = orNone (x.sparePos.map Fin.val) ∧ b 5 = causeCode x.suspect ∧
      b 6 = x.corrected ∧ b 7 = x.uncorrectable := by
  have hbound (o : Option SliceNo) : argOrNone argSlice (b 3) = some o ↔ b 3 = orNone (o.map Fin.val) :=
    argOrNone_eq_some (by decide) fun _ => argSlice_eq_some
  have hpos (o : Option FrameNo) : argOrNone argFrame (b 4) = some o ↔ b 4 = orNone (o.map Fin.val) :=
    argOrNone_eq_some (by decide) fun _ => argFrame_eq_some
  simp only [← argFrame_eq_some, ← argImgState_eq_some, ← hbound, ← hpos, ← argCause_eq_some]
  constructor
  · intro h
    unfold argFrameRecord at h
    split at h
    · next h1 h2 h3 h4 h5 => cases h; exact ⟨_, _, rfl, h1, h2, h3, h4, h5, rfl, rfl⟩
    · cases h
  · rintro ⟨f, x, rfl, h1, h2, h3, h4, h5, h6, h7⟩
    simp only [argFrameRecord, h1, h2, h3, h4, h5, h6, h7]

theorem argSliceRecord_eq_some {b : Nat → Nat} {r : ImgRecord} :
    argSliceRecord b = some r ↔ ∃ i : SliceNo, b 1 = i.val ∧ (b 2 ≤ 1 ∧ b 3 ≤ 1 ∧ b 4 < 16) ∧
      r = .slice i { mapped := decide (b 2 = 1), protect := decide (b 3 = 1)
                     domain := BitVec.ofNat 4 (b 4) } := by
  simp only [← argSlice_eq_some]
  unfold argSliceRecord
  split
  · next i hi =>
    simp only [Option.ite_none_right_eq_some, Option.some.injEq, hi]
    constructor
    · rintro ⟨hb, rfl⟩; exact ⟨i, rfl, hb, rfl⟩
    · rintro ⟨j, rfl, hb, rfl⟩; exact ⟨hb, rfl⟩
  · next hi => simp [hi]

/-- R155: eight bytes are accepted as a record exactly if they spell it. -/
theorem argRecord_eq_some {img : Word64} {r : ImgRecord} : argRecord img = some r ↔ Spells img r := by
  unfold argRecord
  dsimp only
  split
  · next h0 =>
    cases r <;> simp [Spells, h0, and_assoc, eq_comm]
  · next h0 =>
    rw [argFrameRecord_eq_some]
    cases r <;> simp [Spells, h0]
  · next h0 =>
    rw [argSliceRecord_eq_some]
    cases r <;> simp [Spells, h0]
  · next h0 => cases r <;> simp [Spells, h0, eq_comm]
  · next h1 h2 h3 h4 =>
    refine iff_of_false nofun fun h => ?_
    cases r with
    | header => exact h1 h.1
    | frame => exact h2 h.1
    | slice => exact h3 h.1
    | trailer => exact h4 h.1

/-! ## Fields in range (R155) -/

theorem isSome_argSlice (b : Nat) : (argSlice b).isSome = decide (b ≤ 47) := by
  rw [Bool.eq_iff_iff, Option.isSome_iff_exists, decide_eq_true_iff]
  exact ⟨fun ⟨i, h⟩ => by rw [argSlice_eq_some.1 h]; omega,
    fun h => ⟨⟨b, by omega⟩, argSlice_of_eq rfl⟩⟩

theorem isSome_argFrame (b : Nat) : (argFrame b).isSome = decide (b ≤ 63) := by
  rw [Bool.eq_iff_iff, Option.isSome_iff_exists, decide_eq_true_iff]
  exact ⟨fun ⟨f, h⟩ => by rw [argFrame_eq_some.1 h]; omega,
    fun h => ⟨⟨b, by omega⟩, argFrame_of_eq rfl⟩⟩

theorem isSome_argOrNone {α : Type} (parse : Nat → Option α) (b : Nat) :
    (argOrNone parse b).isSome = ((parse b).isSome || b == 0xFF) := by
  unfold argOrNone
  split
  · next h => simp [h]
  · next h => simp [h]

theorem isSome_argImgState (b : Nat) :
    (argImgState b).isSome = [0, 2, 3, 4, 6].contains b := by
  rw [Bool.eq_iff_iff, Option.isSome_iff_exists]
  simp only [argImgState_eq_some, List.contains_iff_mem]
  constructor
  · rintro ⟨st, rfl⟩
    cases st <;> decide
  · intro h
    simp only [List.mem_cons, List.not_mem_nil, or_false] at h
    rcases h with rfl | rfl | rfl | rfl | rfl
    exacts [⟨.absent, rfl⟩, ⟨.free, rfl⟩, ⟨.spare, rfl⟩, ⟨.bound, rfl⟩, ⟨.retired, rfl⟩]

theorem causeCode_le (c : Option Cause) : causeCode c ≤ 5 := by
  rcases c with _ | c
  · decide
  · cases c <;> decide

theorem isSome_argCause (b : Nat) : (argCause b).isSome = decide (b ≤ 5) := by
  rw [Bool.eq_iff_iff, Option.isSome_iff_exists, decide_eq_true_iff]
  refine ⟨fun ⟨c, h⟩ => argCause_eq_some.1 h ▸ causeCode_le c, fun h => ?_⟩
  interval_cases b <;> exact ⟨_, rfl⟩

theorem isSome_argFrameRecord (b : Nat → Nat) : (argFrameRecord b).isSome =
    ((argFrame (b 1)).isSome && (argImgState (b 2)).isSome && (argOrNone argSlice (b 3)).isSome &&
      (argOrNone argFrame (b 4)).isSome && (argCause (b 5)).isSome) := by
  unfold argFrameRecord
  split
  · next h1 h2 h3 h4 h5 =>
    simp only [h1, h2, h3, h4, h5, Option.isSome_some, Bool.and_self]
  · next h =>
    rw [Option.isSome_none, eq_comm, Bool.eq_false_iff]
    simp only [ne_eq, Bool.and_eq_true, Option.isSome_iff_exists]
    rintro ⟨⟨⟨⟨⟨_, h1⟩, _, h2⟩, _, h3⟩, _, h4⟩, _, h5⟩
    exact h _ _ _ _ _ h1 h2 h3 h4 h5

theorem isSome_argSliceRecord (b : Nat → Nat) : (argSliceRecord b).isSome =
    ((argSlice (b 1)).isSome && decide (b 2 ≤ 1 ∧ b 3 ≤ 1 ∧ b 4 < 16)) := by
  unfold argSliceRecord
  split
  · next h =>
    rw [h, Option.isSome_some, Bool.true_and]
    split
    · next hb => rw [Option.isSome_some, decide_eq_true hb]
    · next hb => rw [Option.isSome_none, decide_eq_false hb]
  · next h => rw [h, Option.isSome_none, Option.isSome_none, Bool.false_and]

/-! ### The fields of each kind -/

section
variable {img : Word64}

theorem fieldsInRange_header (h : recByte img 0 = 1) :
    imageFieldsInRange img = decide (recByte img 1 = 1 ∧ recByte img 2 ≤ 64) := by
  simp only [imageFieldsInRange, h, Bool.decide_and, beq_eq_decide]

theorem fieldsInRange_frame (h : recByte img 0 = 2) :
    imageFieldsInRange img = (argFrameRecord (recByte img)).isSome := by
  simp only [imageFieldsInRange, h, isSome_argFrameRecord, isSome_argFrame, isSome_argImgState,
    isSome_argOrNone, isSome_argSlice, isSome_argCause]

theorem fieldsInRange_slice (h : recByte img 0 = 3) :
    imageFieldsInRange img = (argSliceRecord (recByte img)).isSome := by
  simp only [imageFieldsInRange, h, isSome_argSliceRecord, isSome_argSlice, Bool.decide_and,
    Bool.and_assoc, Nat.lt_succ_iff]

theorem fieldsInRange_trailer (h : recByte img 0 = 4) : imageFieldsInRange img = true := by
  simp only [imageFieldsInRange, h]

theorem fieldsInRange_unknown (h1 : recByte img 0 ≠ 1) (h2 : recByte img 0 ≠ 2)
    (h3 : recByte img 0 ≠ 3) (h4 : recByte img 0 ≠ 4) : imageFieldsInRange img = false := by
  unfold imageFieldsInRange
  dsimp only
  split
  · next h => exact absurd h h1
  · next h => exact absurd h h2
  · next h => exact absurd h h3
  · next h => exact absurd h h4
  · rfl

end

/-- R155: eight bytes are accepted as a record exactly if the fields of their kind are in range. -/
theorem isSome_argRecord (img : Word64) : (argRecord img).isSome = imageFieldsInRange img := by
  unfold argRecord
  dsimp only
  split
  · next h0 =>
    rw [fieldsInRange_header h0]
    split
    · next h => rw [Option.isSome_some, decide_eq_true h]
    · next h => rw [Option.isSome_none, decide_eq_false h]
  · next h0 => rw [fieldsInRange_frame h0]
  · next h0 => rw [fieldsInRange_slice h0]
  · next h0 => rw [fieldsInRange_trailer h0, Option.isSome_some]
  · next h1 h2 h3 h4 => rw [fieldsInRange_unknown h1 h2 h3 h4, Option.isSome_none]

/-- R154: a record stands at the index that its kind and number give. -/
theorem standsAt_eq {img : Word64} {r : ImgRecord} (h : argRecord img = some r) (n : Nat) :
    r.standsAt n = imageRecordAt img n := by
  have hr := argRecord_eq_some.1 h
  cases r with
  | header => simp [imageRecordAt, ImgRecord.standsAt, hr.1]
  | frame => simp [imageRecordAt, ImgRecord.standsAt, hr.1, hr.2.1]
  | slice => simp [imageRecordAt, ImgRecord.standsAt, hr.1, hr.2.1]
  | trailer => simp [imageRecordAt, ImgRecord.standsAt, hr.1]

/-! ## The kind of record at an index (R154) -/

section
variable {r : ImgRecord}

theorem header_of_standsAt (h : r.standsAt 0 = true) : ∃ x, r = .header x := by
  cases r with
  | header x => exact ⟨x, rfl⟩
  | frame => simp [ImgRecord.standsAt] at h
  | slice => simp [ImgRecord.standsAt] at h
  | trailer => simp [ImgRecord.standsAt] at h

theorem frame_of_standsAt {f : FrameNo} (h : r.standsAt (f.val + 1) = true) :
    ∃ x, r = .frame f x := by
  cases r with
  | header => simp [ImgRecord.standsAt] at h
  | frame g x =>
    obtain rfl : f = g := Fin.ext (by simpa [ImgRecord.standsAt] using h)
    exact ⟨x, rfl⟩
  | slice => simp [ImgRecord.standsAt] at h; omega
  | trailer => simp [ImgRecord.standsAt] at h; omega

theorem slice_of_standsAt {i : SliceNo} (h : r.standsAt (i.val + 65) = true) :
    ∃ x, r = .slice i x := by
  cases r with
  | header => simp [ImgRecord.standsAt] at h
  | frame => simp [ImgRecord.standsAt] at h; omega
  | slice j x =>
    obtain rfl : i = j := Fin.ext (by simpa [ImgRecord.standsAt] using h)
    exact ⟨x, rfl⟩
  | trailer => simp [ImgRecord.standsAt] at h; omega

theorem trailer_of_standsAt (h : r.standsAt 113 = true) : ∃ c, r = .trailer c := by
  cases r with
  | header => simp [ImgRecord.standsAt] at h
  | frame => simp [ImgRecord.standsAt] at h; omega
  | slice => simp [ImgRecord.standsAt] at h; omega
  | trailer c => exact ⟨c, rfl⟩

end

/-! ## Exported records (R159) -/

section
variable {s : State}

/-- The bytes of a record of eight bytes, byte 0 first. -/
theorem recBytes_of_eq {img : Word64} {b0 b1 b2 b3 b4 b5 b6 b7 : Nat}
    (h : img = record8 b0 b1 b2 b3 b4 b5 b6 b7) :
    recByte img 0 = b0 % 256 ∧ recByte img 1 = b1 % 256 ∧ recByte img 2 = b2 % 256 ∧
    recByte img 3 = b3 % 256 ∧ recByte img 4 = b4 % 256 ∧ recByte img 5 = b5 % 256 ∧
    recByte img 6 = b6 % 256 ∧ recByte img 7 = b7 % 256 := by
  subst h
  have hb := recByte_record8 ![b0, b1, b2, b3, b4, b5, b6, b7]
  exact ⟨hb 0, hb 1, hb 2, hb 3, hb 4, hb 5, hb 6, hb 7⟩

theorem presentCount_le (s : State) : s.presentCount ≤ 64 :=
  List.countP_le_length.trans_eq List.length_finRange

theorem headerRecord_spells (s : State) (g : BitVec 16) :
    Spells (s.headerRecord g) (.header { present := s.presentCount, generation := g }) := by
  obtain ⟨h0, h1, h2, -, h4, h5, -⟩ := recBytes_of_eq (img := s.headerRecord g) rfl
  have hp := presentCount_le s
  rw [Nat.mod_eq_of_lt (by omega)] at h2
  have hg : g = BitVec.ofNat 16 (g.toNat / 256 % 256 * 256 + g.toNat % 256) := by
    rw [Nat.mod_eq_of_lt (show g.toNat / 256 < 256 by omega), Nat.div_add_mod', BitVec.ofNat_toNat,
      BitVec.setWidth_eq]
  refine ⟨h0, h1, h2.trans_le hp, ?_⟩
  rw [h2, h4, h5, ← hg]

theorem sliceRecord_spells (s : State) (i : SliceNo) :
    Spells (s.sliceRecord i) (.slice i (s.renderedSlice i)) := by
  obtain ⟨h0, h1, h2, h3, h4, -⟩ := recBytes_of_eq (img := s.sliceRecord i) rfl
  have hd : (s.slice i).domain.toNat < 16 := (s.slice i).domain.isLt
  have hp := (s.slice i).protect.toNat_le
  rw [Nat.mod_eq_of_lt (by omega)] at h1 h3 h4
  refine ⟨h0, h1, ⟨?_, h3.trans_le hp, h4.trans_lt hd⟩, ?_⟩
  · rw [h2]
    split <;> decide
  · rw [State.renderedSlice, h2, h3, h4, BitVec.ofNat_toNat, BitVec.setWidth_eq]
    congr 1
    · split <;> simp [*]
    · cases (s.slice i).protect <;> rfl

theorem trailerRecord_spells (check : Word32) : Spells (trailerRecord check) (.trailer check) := by
  refine ⟨recByte_record8_zero .., ?_⟩
  rw [trailerRecord, record8, BitVec.extractLsb'_append_eq_right]
  apply BitVec.eq_of_toNat_eq
  rw [toNat_word4]
  simp only [byteOf]
  omega

/-- The eight bytes of a frame record of an image (R182). -/
def frameBytes (f : FrameNo) (r : ImgFrame) : Word64 :=
  record8 2 f.val (imgStateCode r.state) (orNone (r.bound.map Fin.val))
    (orNone (r.sparePos.map Fin.val)) (causeCode r.suspect) r.corrected r.uncorrectable

theorem orNone_lt {n : Nat} (hn : n ≤ 255) (o : Option (Fin n)) : orNone (o.map Fin.val) < 256 := by
  rcases o with _ | x
  · exact Nat.lt_succ_self _
  · simp only [Option.map_some, orNone]; omega

theorem frameBytes_spells {f : FrameNo} {r : ImgFrame} (hc : r.corrected ≤ 255)
    (hu : r.uncorrectable ≤ 255) : Spells (frameBytes f r) (.frame f r) := by
  obtain ⟨h0, h1, h2, h3, h4, h5, h6, h7⟩ := recBytes_of_eq (img := frameBytes f r) rfl
  have hstate : imgStateCode r.state < 256 := by cases r.state <;> decide
  have hcause := causeCode_le r.suspect
  rw [Nat.mod_eq_of_lt (by omega)] at h1 h5 h6 h7
  rw [Nat.mod_eq_of_lt hstate] at h2
  rw [Nat.mod_eq_of_lt (orNone_lt (by decide) _)] at h3 h4
  exact ⟨h0, h1, h2, h3, h4, h5, h6, h7⟩

theorem renderedFrame_counts (h : RangeLaws s) (f : FrameNo) :
    (s.renderedFrame f).corrected ≤ 255 ∧ (s.renderedFrame f).uncorrectable ≤ 255 := by
  have hc := h.counts f
  unfold State.renderedFrame
  dsimp only
  split
  case h_1 | h_2 => exact ⟨Nat.zero_le _, Nat.zero_le _⟩
  all_goals exact hc

/-- R33: a position in the spare queue is below 64. -/
theorem idxOf_spareQ_lt (h : MapLaws s) {f : FrameNo} (hf : f ∈ s.spareQ) :
    s.spareQ.idxOf f < 64 :=
  calc s.spareQ.idxOf f < s.spareQ.length := List.idxOf_lt_length_of_mem hf
    _ ≤ Fintype.card FrameNo := h.spare.1.length_le_card
    _ = 64 := Fintype.card_fin 64

/-- R159: a tested frame's exported record has the bytes of its rendered record. -/
theorem frameRecord_eq (h : MapLaws s) {f : FrameNo} (ht : (s.frame f).state ≠ .untested) :
    s.frameRecord f = frameBytes f (s.renderedFrame f) := by
  unfold State.frameRecord State.renderedFrame frameBytes
  dsimp only
  cases hst : (s.frame f).state with
  | untested => exact absurd hst ht
  | spare =>
    have hf : f ∈ s.spareQ := (h.spare.2.1 f).2 hst
    have hpos : s.spareQ.idxOf f % 64 = s.spareQ.idxOf f := Nat.mod_eq_of_lt (idxOf_spareQ_lt h hf)
    simp [posIn, hf, orNone, hpos, imgStateCode, FrameState.code, FrameState.slice]
  | absent | free | bound | target | retired => rfl

end

end Sys2Proof.Machine.ImageProofs

open Sys2Proof Sys2Proof.Machine Sys2Proof.Machine.MapProofs Sys2Proof.Machine.ImageProofs

/-- Settles O59: each exported record spells its rendering, and eight bytes are read as what they spell. -/
theorem exportedRecordsReadBack : Obligations.ExportedRecordsReadBack := by
  intro s hmap hrange
  refine ⟨fun g => argRecord_eq_some.2 (headerRecord_spells s g), fun f hf => ?_,
    fun i => argRecord_eq_some.2 (sliceRecord_spells s i),
    fun check => argRecord_eq_some.2 (trailerRecord_spells check), fun g n hn => ?_, fun i n hn => ?_,
    fun check n hn => ?_⟩
  · obtain ⟨hc, hu⟩ := renderedFrame_counts hrange f
    rw [frameRecord_eq hmap hf]
    exact argRecord_eq_some.2 (frameBytes_spells hc hu)
  · obtain ⟨-, -, -, h3, -, -, h6, h7⟩ := recBytes_of_eq (img := s.headerRecord g) rfl
    simp only [List.mem_cons, List.not_mem_nil, or_false] at hn
    rcases hn with rfl | rfl | rfl
    exacts [h3, h6, h7]
  · obtain ⟨-, -, -, -, -, h5, h6, h7⟩ := recBytes_of_eq (img := s.sliceRecord i) rfl
    simp only [List.mem_cons, List.not_mem_nil, or_false] at hn
    rcases hn with rfl | rfl | rfl
    exacts [h5, h6, h7]
  · obtain ⟨-, h1, h2, h3, -⟩ := recBytes_of_eq (img := trailerRecord check) rfl
    simp only [List.mem_cons, List.not_mem_nil, or_false] at hn
    rcases hn with rfl | rfl | rfl
    exacts [h1, h2, h3]

end

section
/-! The import's consistency check (R164): what its conditions say, and an image of a lawful state, which
meets them all. -/

namespace Sys2Proof.Machine.ImageProofs

open Sys2Proof Sys2Proof.Machine Sys2Proof.Machine.Laws Sys2Proof.Machine.MapProofs
  Sys2Proof.Machine.SessionProofs

/-! ## The conditions of R164 -/

section
variable {e : ImportSession}

theorem badHeader_iff : e.badHeader = true ↔ (e.header.map (·.present)).getD 0 ≠
    ((List.finRange 64).filter fun f => decide ((e.frame f).state ≠ .absent)).length := by
  have hcount : (List.finRange 64).countP (fun f => (e.frame f).state != .absent) =
      ((List.finRange 64).filter fun f => decide ((e.frame f).state ≠ .absent)).length := by
    rw [← List.countP_eq_length_filter]
    exact List.countP_congr fun f _ => by simp
  rw [ImportSession.badHeader, hcount, bne_iff_ne]

theorem binds_iff {r : ImgFrame} {i : SliceNo} :
    r.binds i = true ↔ r.state = .bound ∧ r.bound = some i := by
  simp [ImgFrame.binds]

theorem boundTwice_iff {f : FrameNo} : e.boundTwice f = true ↔
    (e.frame f).state = .bound ∧ (e.frame f).bound ≠ none ∧
      ∃ g : FrameNo, g ≠ f ∧ (e.frame g).state = .bound ∧ (e.frame g).bound = (e.frame f).bound := by
  unfold ImportSession.boundTwice
  split
  · next i hst hb => simp [hst, hb, binds_iff]
  · next h =>
    refine iff_of_false nofun fun ⟨hst, hb, _⟩ => ?_
    obtain ⟨i, hi⟩ := Option.ne_none_iff_exists'.1 hb
    exact h i hst hi

theorem spareCount_eq (e : ImportSession) : e.spareCount =
    ((List.finRange 64).filter fun g => decide ((e.frame g).state = .spare)).length := by
  rw [ImportSession.spareCount, ← List.countP_eq_length_filter]
  exact List.countP_congr fun f _ => by simp

theorem badSparePos_iff {f : FrameNo} : e.badSparePos f = true ↔
    (e.frame f).state = .spare ∧
      ((∃ p : Fin 64, (e.frame f).sparePos = some p ∧
          ((List.finRange 64).filter fun g => decide ((e.frame g).state = .spare)).length ≤ p.val) ∨
        (e.frame f).sparePos ≠ none ∧
        ∃ g : FrameNo, g ≠ f ∧ (e.frame g).state = .spare ∧
          (e.frame g).sparePos = (e.frame f).sparePos) := by
  rw [← spareCount_eq]
  unfold ImportSession.badSparePos
  split
  · next p hst hp => simp [hst, hp, and_assoc]
  · next h =>
    refine iff_of_false nofun fun ⟨hst, hor⟩ => ?_
    have hpos : (e.frame f).sparePos ≠ none := by
      rcases hor with ⟨p, hp, _⟩ | ⟨hp, _⟩
      · rw [hp]; nofun
      · exact hp
    obtain ⟨p, hp⟩ := Option.ne_none_iff_exists'.1 hpos
    exact h p hst hp

/-- The check of a frame record is R164's table, row by row. -/
theorem badFrame_iff {f : FrameNo} : e.badFrame f = true ↔ e.frameNamed f := by
  have hflag {α : Type} (o : Option α) (st st' : ImgState) :
      (o.isSome != (st == st')) = true ↔ ¬(o ≠ none ↔ st = st') := by
    rw [bne_iff_ne, ne_eq, Bool.eq_iff_iff, Option.isSome_iff_ne_none, beq_iff_eq]
  simp only [ImportSession.badFrame, Bool.or_eq_true, Bool.and_eq_true, hflag, boundTwice_iff,
    badSparePos_iff, beq_iff_eq, bne_iff_ne, Option.isNone_iff_eq_none, Option.isSome_iff_ne_none,
    or_assoc]

theorem badSlice_iff {i : SliceNo} : e.badSlice i = true ↔ ¬((e.slice i).mapped = true ↔
    ∃ f : FrameNo, (e.frame f).state = .bound ∧ (e.frame f).bound = some i) := by
  rw [ImportSession.badSlice, bne_iff_ne, ne_eq, Bool.eq_iff_iff]
  simp only [List.any_eq_true, List.mem_finRange, true_and, binds_iff]

/-! ## The record that the check names -/

theorem named_iff {n : Nat} : e.named n ↔ n = 0 ∧ e.badHeader = true ∨
    (∃ f : FrameNo, n = f.val + 1 ∧ e.badFrame f = true) ∨
    ∃ i : SliceNo, n = i.val + 65 ∧ e.badSlice i = true := by
  simp only [ImportSession.named, badHeader_iff, badFrame_iff, badSlice_iff]

theorem inconsistent_eq_none_iff : e.inconsistent = none ↔ ∀ k, ¬e.named k := by
  have hbad : e.inconsistent = none ↔ e.badHeader = false ∧
      (∀ f, e.badFrame f = false) ∧ ∀ i, e.badSlice i = false := by
    unfold ImportSession.inconsistent
    split
    · next hh => simp [hh]
    · next hh =>
      split
      · next f hf =>
        have hbad := (lowest_of_find_finRange hf).1
        exact iff_of_false nofun fun ⟨_, h, _⟩ => by rw [h f] at hbad; cases hbad
      · next hf => simp [hh, find_finRange_none.1 hf]
  simp only [hbad, named_iff, ← Bool.not_eq_true]
  constructor
  · rintro ⟨hh, hf, hs⟩ k (⟨_, h⟩ | ⟨f, _, h⟩ | ⟨i, _, h⟩)
    exacts [hh h, hf f h, hs i h]
  · exact fun h => ⟨fun hh => h 0 (.inl ⟨rfl, hh⟩), fun f hf => h _ (.inr (.inl ⟨f, rfl, hf⟩)),
      fun i hi => h _ (.inr (.inr ⟨i, rfl, hi⟩))⟩

/-- R164: the index reported is the lowest one named, the header before the frames before the slices. -/
theorem inconsistent_of_lowest {n : Nat} (hn : e.named n) (hlow : ∀ k < n, ¬e.named k) :
    e.inconsistent = some n := by
  simp only [named_iff] at hn hlow
  unfold ImportSession.inconsistent
  rcases hn with ⟨rfl, hh⟩ | ⟨f, rfl, hf⟩ | ⟨i, rfl, hi⟩
  · rw [if_pos hh]
  · have hfind : (List.finRange 64).find? e.badFrame = some f :=
      find_finRange_some.2 ⟨hf, fun g hg => Bool.eq_false_iff.2 fun hbad =>
        hlow (g.val + 1) (by omega) (.inr (.inl ⟨g, rfl, hbad⟩))⟩
    rw [if_neg fun hh => hlow 0 (by omega) (.inl ⟨rfl, hh⟩), hfind]
  · have hfind : (List.finRange 64).find? e.badFrame = none :=
      find_finRange_none.2 fun g => Bool.eq_false_iff.2 fun hbad =>
        hlow (g.val + 1) (by omega) (.inr (.inl ⟨g, rfl, hbad⟩))
    have hslice : (List.finRange 48).find? e.badSlice = some i :=
      find_finRange_some.2 ⟨hi, fun j hj => Bool.eq_false_iff.2 fun hbad =>
        hlow (j.val + 65) (by omega) (.inr (.inr ⟨j, rfl, hbad⟩))⟩
    rw [if_neg fun hh => hlow 0 (by omega) (.inl ⟨rfl, hh⟩), hfind, hslice]
    rfl

end

/-! ## Rendered frames (R159) -/

section
variable {s : State} {f : FrameNo}

theorem renderedFrame_eq_bound {i : SliceNo} : (s.renderedFrame f).state = .bound ∧
    (s.renderedFrame f).bound = some i ↔ (s.frame f).state = .bound i := by
  cases hst : (s.frame f).state <;> simp [State.renderedFrame, hst]

theorem renderedFrame_spare_iff :
    (s.renderedFrame f).state = .spare ↔ (s.frame f).state = .spare := by
  cases hst : (s.frame f).state <;> simp [State.renderedFrame, hst]

theorem renderedFrame_absent_iff : (s.renderedFrame f).state = .absent ↔
    (s.frame f).state = .absent ∨ (s.frame f).state = .untested := by
  cases hst : (s.frame f).state <;> simp [State.renderedFrame, hst]

/-- A bound slice exactly with BOUND, a spare position exactly with SPARE. -/
theorem renderedFrame_fields :
    ((s.renderedFrame f).bound ≠ none ↔ (s.renderedFrame f).state = .bound) ∧
    ((s.renderedFrame f).sparePos ≠ none ↔ (s.renderedFrame f).state = .spare) := by
  cases hst : (s.frame f).state <;> simp [State.renderedFrame, hst]

theorem renderedFrame_absent (h : (s.renderedFrame f).state = .absent) :
    (s.renderedFrame f).suspect = none ∧ (s.renderedFrame f).corrected = 0 ∧
      (s.renderedFrame f).uncorrectable = 0 := by
  cases hst : (s.frame f).state <;> simp [State.renderedFrame, hst] at h ⊢

theorem renderedFrame_retired (h : suspectLaw s) (hr : (s.renderedFrame f).state = .retired) :
    (s.renderedFrame f).suspect ≠ none := by
  have hsus := (h f).2
  cases hst : (s.frame f).state <;> simp [State.renderedFrame, hst] at hr ⊢
  exact Option.isSome_iff_ne_none.1 (hsus hst)

theorem renderedFrame_sparePos (h : MapLaws s) {p : Fin 64} (hf : (s.frame f).state = .spare) :
    (s.renderedFrame f).sparePos = some p ↔ s.spareQ.idxOf f = p.val := by
  have hpos : s.spareQ.idxOf f % 64 = s.spareQ.idxOf f :=
    Nat.mod_eq_of_lt (idxOf_spareQ_lt h ((h.spare.2.1 f).2 hf))
  simp [State.renderedFrame, hf, Fin.ext_iff, hpos]

/-- R33: as many frames are SPARE as stand in the spare queue. -/
theorem spareQ_length (h : spareLaw s) : s.spareQ.length =
    ((List.finRange 64).filter fun g => decide ((s.frame g).state = .spare)).length := by
  obtain ⟨hnodup, hmem, -⟩ := h
  refine ((List.perm_ext_iff_of_nodup hnodup ((List.nodup_finRange 64).filter _)).2 fun g => ?_).length_eq
  simp [hmem g]

/-! ## The image of a lawful state -/

/-- R159: the session holds every frame and every slice of the state as an image renders it. -/
structure Renders (t : ImportSession) (s : State) : Prop where
  frame : ∀ f, t.frame f = s.renderedFrame f
  slice : ∀ i, t.slice i = s.renderedSlice i

variable {t : ImportSession}

theorem Renders.frame_not_named (hr : Renders t s) (h : MapLaws s) (f : FrameNo) : ¬t.frameNamed f := by
  obtain ⟨hbound, hspare⟩ := renderedFrame_fields (s := s) (f := f)
  simp only [ImportSession.frameNamed, hr.frame]
  rintro (hn | hn | ⟨hst, hn⟩ | ⟨hst, hn⟩ | ⟨hst, hb, g, hgf, hgst, hg⟩ | ⟨hst, hn⟩)
  · exact hn hbound
  · exact hn hspare
  · exact renderedFrame_retired h.suspect hst hn
  · simp [renderedFrame_absent hst] at hn
  · obtain ⟨i, hi⟩ := Option.ne_none_iff_exists'.1 hb
    have hf := (h.sliceFrame i f).2 (renderedFrame_eq_bound.1 ⟨hst, hi⟩)
    have hg := (h.sliceFrame i g).2 (renderedFrame_eq_bound.1 ⟨hgst, hg.trans hi⟩)
    exact hgf (Option.some.inj (hg.symm.trans hf))
  · simp only [renderedFrame_spare_iff] at hst hn
    have hmem : f ∈ s.spareQ := (h.spare.2.1 f).2 hst
    rcases hn with ⟨p, hp, hle⟩ | ⟨hp, g, hgf, hgst, hg⟩
    · rw [← spareQ_length h.spare, ← (renderedFrame_sparePos h hst).1 hp] at hle
      exact absurd (List.idxOf_lt_length_of_mem hmem) (Nat.not_lt.2 hle)
    · obtain ⟨p, hp⟩ := Option.ne_none_iff_exists'.1 hp
      have hfp := (renderedFrame_sparePos h hst).1 hp
      have hgp := (renderedFrame_sparePos h hgst).1 (hg.trans hp)
      exact hgf ((List.idxOf_inj ((h.spare.2.1 g).2 hgst)).1 (hgp.trans hfp.symm))

theorem Renders.slice_agrees (hr : Renders t s) (h : sliceFrameLaw s) (i : SliceNo) :
    (t.slice i).mapped = true ↔
      ∃ f : FrameNo, (t.frame f).state = .bound ∧ (t.frame f).bound = some i := by
  simp only [hr.slice, hr.frame, renderedFrame_eq_bound, ← h i, State.renderedSlice, decide_eq_true_iff]
  cases (s.slice i).loc <;> simp [SliceLoc.source]

theorem Renders.presentCount (hr : Renders t s) (htested : ∀ f : FrameNo, (s.frame f).state ≠ .untested) :
    s.presentCount =
      ((List.finRange 64).filter fun f => decide ((t.frame f).state ≠ .absent)).length := by
  rw [presentCount_eq, ← List.countP_eq_length_filter]
  exact List.countP_congr fun f _ => by simp [hr.frame, renderedFrame_absent_iff, htested f]

end

end Sys2Proof.Machine.ImageProofs

open Sys2Proof Sys2Proof.Machine Sys2Proof.Machine.ImageProofs

/-- Settles O60: none of the records is named, the header's, a frame's or a slice's. -/
theorem exportedImagesAreConsistent : Obligations.ExportedImagesAreConsistent := by
  intro s t g h _ htested hheader hframes hslices
  have hr : Renders t s :=
    ⟨fun f => by rw [ImportSession.frame, hframes]; rfl,
      fun i => by rw [ImportSession.slice, hslices]; rfl⟩
  refine inconsistent_eq_none_iff.2 fun k hk => ?_
  rcases hk with ⟨-, hk⟩ | ⟨f, -, hk⟩ | ⟨i, -, hk⟩
  · rw [hheader, ← hr.presentCount htested] at hk
    exact hk rfl
  · exact hr.frame_not_named h f hk
  · exact hk (hr.slice_agrees h.sliceFrame i)

end

section
/-! Export sessions (R157, R158): the record of each index, and the session it leaves. -/

namespace Sys2Proof.Machine.ImageProofs

open Sys2Proof Sys2Proof.Machine Sys2Proof.Machine.Laws Sys2Proof.Machine.MapProofs

section
variable {s : State} {w : CmdWord} {e : ExportSession}

theorem exec_exportBegin (s : State) :
    exec .exportBegin s = .next (s.takeCommand (· == 0x68) exportBeginCommand) := rfl
theorem exec_exportNext (s : State) :
    exec .exportNext s = .next (s.takeCommand (· == 0x69) exportNextCommand) := rfl

/-! ## The record of an index (R154) -/

theorem imageRecord_header (h : e.cursor = 0) : s.imageRecord e = s.headerRecord e.savedGen := if_pos h

theorem imageRecord_frame {f : FrameNo} (h : e.cursor = f.val + 1) :
    s.imageRecord e = s.frameRecord f := by
  simp [State.imageRecord, h]

theorem imageRecord_slice {i : SliceNo} (h : e.cursor = i.val + 65) :
    s.imageRecord e = s.sliceRecord i := by
  simp [State.imageRecord, h]

theorem imageRecord_trailer (h : e.cursor = 113) : s.imageRecord e = trailerRecord (~~~e.check) := by
  simp [State.imageRecord, h]

/-! ## The commands -/

theorem exportBeginCommand_inService (hp : inService s) {replaced : Nat}
    (hr : s.exportS = none ∧ replaced = 0 ∨ s.exportS ≠ none ∧ replaced = 1) :
    exportBeginCommand w s = State.done
      { s with exportS := some { cursor := 0, savedGen := s.generation, check := 0xFFFFFFFF#32 } }
      (word4 replaced 0 0 0) 0 := by
  have hflag : s.exportS.isSome.toNat = replaced := by
    rcases hr with ⟨he, rfl⟩ | ⟨he, rfl⟩
    · rw [he]; rfl
    · rw [Option.isSome_iff_ne_none.2 he]; rfl
  rw [exportBeginCommand, guarded_in (mem_inService.2 hp) (.inl rfl), hflag]
  rfl

theorem exportNextCommand_none (hp : inService s) (he : s.exportS = none) :
    exportNextCommand w s = s.refuse .sequence := by
  rw [exportNextCommand, guarded_in (mem_inService.2 hp) (.inl rfl), he]

theorem exportNextCommand_stale (hp : inService s) (he : s.exportS = some e)
    (hg : s.generation ≠ e.savedGen) :
    exportNextCommand w s = ⟨.stale, word4 e.cursor 0 0 0, 0, 0, { s with exportS := none }⟩ := by
  rw [exportNextCommand, guarded_in (mem_inService.2 hp) (.inl rfl), he]
  exact if_pos hg

theorem exportNextCommand_returns (hp : inService s) (he : s.exportS = some e)
    (hg : s.generation = e.savedGen) {record : Word64} (hr : s.imageRecord e = record) :
    exportNextCommand w s =
      ⟨.ok, word4 e.cursor 0 0 0, record.extractLsb' 32 32, record.extractLsb' 0 32,
        { s with exportS := e.next record }⟩ := by
  rw [exportNextCommand, guarded_in (mem_inService.2 hp) (.inl rfl), he, ← hr]
  exact if_neg (not_not.2 hg)

/-- R158: the session goes on to the next index, or ends after the trailer. -/
theorem next_eq {record : Word64} {e' : Option ExportSession}
    (h : e.cursor ≤ 112 ∧ e' = some
        { cursor := e.cursor + 1, savedGen := e.savedGen, check := crcRecord e.check record } ∨
      e.cursor = 113 ∧ e' = none) : e.next record = e' := by
  rcases h with ⟨hc, rfl⟩ | ⟨hc, rfl⟩
  · exact if_pos (Nat.lt_succ_of_le (Nat.succ_le_succ hc))
  · rw [ExportSession.next, hc]
    rfl

end

end Sys2Proof.Machine.ImageProofs

open Sys2Proof Sys2Proof.Machine Sys2Proof.Machine.Laws Sys2Proof.Machine.MapProofs
  Sys2Proof.Machine.ImageProofs

/-- Settles O15: each command by its checks in order, the record by its index. -/
theorem exportReturnsTheImageRecordByRecord : Obligations.ExportReturnsTheImageRecordByRecord := by
  intro s w rest
  refine ⟨fun ht => ⟨fun hp => ?_, fun hp replaced hr => ?_⟩,
    fun ht => ⟨fun hp => ?_, fun hp he => ?_, fun hp e he => ⟨fun hg => ?_, fun hg record e' hrec hnext => ?_⟩⟩⟩
  · exact refused_of_takes (exec_exportBegin s) ht (guarded_out (mt mem_inService.1 hp))
  · exact exec_of_takes (exec_exportBegin s) ht
      (exportBeginCommand_inService (s := { s with cmdQ := rest }) hp hr)
  · exact refused_of_takes (exec_exportNext s) ht (guarded_out (mt mem_inService.1 hp))
  · exact refused_of_takes (exec_exportNext s) ht
      (exportNextCommand_none (s := { s with cmdQ := rest }) hp he)
  · exact exec_of_takes (exec_exportNext s) ht
      (exportNextCommand_stale (s := { s with cmdQ := rest }) hp he hg)
  · have hr : State.imageRecord { s with cmdQ := rest } e = record := by
      rcases hrec with ⟨hc, rfl⟩ | ⟨f, hc, rfl⟩ | ⟨i, hc, rfl⟩ | ⟨hc, rfl⟩
      exacts [imageRecord_header hc, imageRecord_frame hc, imageRecord_slice hc, imageRecord_trailer hc]
    rw [exec_of_takes (exec_exportNext s) ht
      (exportNextCommand_returns (s := { s with cmdQ := rest }) hp he hg hr), next_eq hnext]
    rfl

end

section
/-! IMPORT_RECORD: its checks in order, and the record it stores (R161). -/

namespace Sys2Proof.Machine.ImageProofs

open Sys2Proof Sys2Proof.Machine Sys2Proof.Machine.Laws Sys2Proof.Machine.MapProofs
  Sys2Proof.Machine.SessionProofs

section
variable {s : State} {e : ImportSession} {w : CmdWord} {r : ImgRecord}

theorem exec_importRecord (s : State) :
    exec .importRecord s = .next (s.takeCommand (· == 0x61) importRecordCommand) := rfl

/-! ## The checks -/

/-- R155: the index is in range, and the bytes spell the record. -/
def Offers (w : CmdWord) (r : ImgRecord) : Prop :=
  byteOf w.cmd1 0 ≤ 113 ∧ argRecord (w.cmd2 ++ w.cmd3) = some r

theorem exists_offers (hn : byteOf w.cmd1 0 ≤ 113)
    (hf : imageFieldsInRange (w.cmd2 ++ w.cmd3) = true) : ∃ r, Offers w r := by
  rw [← isSome_argRecord] at hf
  obtain ⟨r, hr⟩ := Option.isSome_iff_exists.1 hf
  exact ⟨r, hn, hr⟩

theorem offered_eq_none
    (h : ¬(byteOf w.cmd1 0 ≤ 113 ∧ imageFieldsInRange (w.cmd2 ++ w.cmd3) = true)) :
    (if byteOf w.cmd1 0 ≤ 113 then argRecord (w.cmd2 ++ w.cmd3) else none) = none := by
  rw [← isSome_argRecord] at h
  split
  · next hn => exact Option.not_isSome_iff_eq_none.1 fun hr => h ⟨hn, hr⟩
  · rfl

theorem importRecordCommand_badArg_idle (hp : s.phase ≠ .importing)
    (h : ¬(byteOf w.cmd1 0 ≤ 113 ∧ imageFieldsInRange (w.cmd2 ++ w.cmd3) = true)) :
    importRecordCommand w s = s.refuse .badArg := by
  unfold importRecordCommand
  dsimp only
  rw [offered_eq_none h]
  dsimp only
  split
  · next hi _ => exact absurd hi hp
  · rfl

theorem importRecordCommand_badArg (hp : s.phase = .importing) (he : s.importS = some e)
    (h : ¬(byteOf w.cmd1 0 ≤ 113 ∧ imageFieldsInRange (w.cmd2 ++ w.cmd3) = true)) :
    importRecordCommand w s = s.endRefused .badArg e := by
  unfold importRecordCommand
  dsimp only
  rw [offered_eq_none h, hp, he]

theorem importRecordCommand_wrongPhase (hp : s.phase ≠ .importing) (h : Offers w r) :
    importRecordCommand w s = s.refuse .wrongPhase := by
  unfold importRecordCommand
  dsimp only
  rw [if_pos h.1, h.2]
  exact guarded_out (by simpa using hp)

theorem importRecordCommand_sequence (hp : s.phase = .importing) (he : s.importS = some e)
    (h : Offers w r) (hn : ¬(byteOf w.cmd1 0 = e.expected ∧ r.standsAt (byteOf w.cmd1 0) = true)) :
    importRecordCommand w s = s.endRefused .sequence e := by
  unfold importRecordCommand
  dsimp only
  rw [if_pos h.1, h.2]
  dsimp only
  rw [guarded_in (by simp [hp]) (.inl rfl), he, hp]
  exact if_neg hn

theorem importRecordCommand_accepts (hp : s.phase = .importing) (he : s.importS = some e)
    (h : Offers w r) (hn : byteOf w.cmd1 0 = e.expected) (hr : r.standsAt e.expected = true) :
    importRecordCommand w s =
      ⟨.ok, word4 e.expected (e.accept (w.cmd2 ++ w.cmd3) r).expected 0 0, 0, 0,
        { s with importS := some (e.accept (w.cmd2 ++ w.cmd3) r) }⟩ := by
  unfold importRecordCommand
  dsimp only
  rw [if_pos h.1, h.2]
  dsimp only
  rw [guarded_in (by simp [hp]) (.inl rfl), he, hn]
  exact if_pos ⟨rfl, hr⟩

/-! ## The record stored -/

theorem accept_expected (img : Word64) : (e.accept img r).expected = e.expected + 1 := by
  cases r <;> rfl

/-- R161: every record but the trailer is folded into the running check. -/
theorem accept_check {n : Nat} (img : Word64) (hr : r.standsAt n = true) (hn : n ≤ 112) :
    (e.accept img r).check = crcRecord e.check img ∧ (e.accept img r).received = e.received := by
  cases r with
  | trailer => simp [ImgRecord.standsAt] at hr; omega
  | header | frame | slice => exact ⟨rfl, rfl⟩

theorem accept_trailer {img : Word64} {c : Word32} (hs : Spells img (.trailer c)) :
    (e.accept img (.trailer c)).received = some (img.extractLsb' 0 32) :=
  congrArg some hs.2

theorem accept_header {img : Word64} {h : ImgHeader} (hs : Spells img (.header h)) :
    (e.accept img (.header h)).header = some
      { present := recByte img 2
        generation := BitVec.ofNat 16 (recByte img 4 * 256 + recByte img 5) } :=
  congrArg some hs.2.2.2

theorem accept_slice {img : Word64} {i : SliceNo} {x : ImgSlice} (hs : Spells img (.slice i x)) :
    (e.accept img (.slice i x)).slices = e.slices.set i (some
      { mapped := decide (recByte img 2 = 1), protect := decide (recByte img 3 = 1)
        domain := BitVec.ofNat 4 (recByte img 4) }) := by
  rw [← hs.2.2.2]
  rfl

end

end Sys2Proof.Machine.ImageProofs

open Sys2Proof Sys2Proof.Machine Sys2Proof.Machine.Laws Sys2Proof.Machine.MapProofs
  Sys2Proof.Machine.ImageProofs

/-- Settles O17: each check by its own lemma, the accepted record by the kind its index gives. -/
theorem importRecordsAreAcceptedInOrder : Obligations.ImportRecordsAreAcceptedInOrder := by
  intro s w rest ht
  refine ⟨fun h hp => ?_, fun hn hf hp => ?_, fun e hp he => ⟨fun st hst => ?_, fun hn hf hx hat => ?_⟩⟩
  · exact refused_of_takes (exec_importRecord s) ht
      (importRecordCommand_badArg_idle (s := { s with cmdQ := rest }) hp h)
  · obtain ⟨r, hr⟩ := exists_offers hn hf
    exact refused_of_takes (exec_importRecord s) ht
      (importRecordCommand_wrongPhase (s := { s with cmdQ := rest }) hp hr)
  · refine exec_of_takes (out := State.endRefused { s with cmdQ := rest } st e)
      (exec_importRecord s) ht ?_
    rcases hst with ⟨h, rfl⟩ | ⟨hn, hf, h, rfl⟩
    · exact importRecordCommand_badArg (s := { s with cmdQ := rest }) hp he h
    · obtain ⟨r, hr⟩ := exists_offers hn hf
      rw [← standsAt_eq hr.2] at h
      exact importRecordCommand_sequence (s := { s with cmdQ := rest }) hp he hr h
  · obtain ⟨r, hr⟩ := exists_offers hn hf
    have hspells := argRecord_eq_some.1 hr.2
    rw [← standsAt_eq hr.2, hx] at hat
    have hexec := exec_of_takes (exec_importRecord s) ht
      (importRecordCommand_accepts (s := { s with cmdQ := rest }) hp he hr hx hat)
    rw [accept_expected] at hexec
    refine ⟨_, hexec, accept_expected _, accept_check _ hat, fun h => ?_, fun h => ?_, fun f h => ?_,
      fun i h => ?_⟩
    · rw [h] at hat
      obtain ⟨c, rfl⟩ := trailer_of_standsAt hat
      rw [accept_trailer hspells, BitVec.extractLsb'_append_eq_right]
      exact ⟨rfl, rfl, rfl, rfl, rfl⟩
    · rw [h] at hat
      obtain ⟨x, rfl⟩ := header_of_standsAt hat
      exact ⟨rfl, rfl, accept_header hspells⟩
    · rw [h] at hat
      obtain ⟨x, rfl⟩ := frame_of_standsAt hat
      obtain ⟨-, -, hstate, hbound, hpos, hcause, hcor, hunc⟩ := hspells
      refine ⟨x, rfl, rfl, rfl, ?_, ?_, ?_, hcause.symm, hcor.symm, hunc.symm⟩
      · rw [hstate]
        cases x.state <;> decide
      · rw [hbound]
        cases x.bound <;> rfl
      · rw [hpos]
        cases x.sparePos <;> rfl
    · rw [h] at hat
      obtain ⟨x, rfl⟩ := slice_of_standsAt hat
      exact ⟨rfl, rfl, accept_slice hspells⟩

end

section
/-! IMPORT_END: its refusals in order (R163, R164, R165). -/

namespace Sys2Proof.Machine.ImageProofs

open Sys2Proof Sys2Proof.Machine Sys2Proof.Machine.Laws Sys2Proof.Machine.MapProofs
  Sys2Proof.Machine.SessionProofs

section
variable {s : State} {e : ImportSession} {w : CmdWord}

/-- R165: the record named is that of the lowest frame that the image binds and that is ABSENT or RETIRED. -/
theorem disagrees_of_lowest {f : FrameNo}
    (hf : (e.frame f).state = .bound ∧ ((s.frame f).state = .absent ∨ (s.frame f).state = .retired))
    (hlow : ∀ g : FrameNo, g < f → ¬((e.frame g).state = .bound ∧
      ((s.frame g).state = .absent ∨ (s.frame g).state = .retired))) :
    s.disagrees e = some (f.val + 1) := by
  refine Option.map_eq_some_iff.2 ⟨f, find_finRange_some.2 ⟨?_, fun g hg => ?_⟩, rfl⟩
  · simpa using hf
  · exact Bool.eq_false_iff.2 fun hbad => hlow g hg (by simpa using hbad)

theorem importEndCommand_importing (hp : s.phase = .importing) (he : s.importS = some e) :
    importEndCommand w s = s.importEnd e := by
  rw [importEndCommand, guarded_in (by simp [hp]) (.inl rfl), he]

theorem importEnd_incomplete (h : e.expected < 114) : s.importEnd e = s.endRefused .sequence e :=
  if_pos h

theorem importEnd_checkFailed {c : Word32} (hn : e.expected = 114) (hc : e.received = some c)
    (h : ~~~e.check ≠ c) : s.importEnd e = ⟨.checkFailed, ~~~e.check, c, 0, s.endImport⟩ := by
  rw [State.importEnd, hn, hc]
  exact (if_neg (by decide)).trans (if_pos h)

/-- R164, R165: with every record and the right check, the image is compared with itself, then with the
hardware. -/
theorem importEnd_mismatch {group n : Nat} (hn : e.expected = 114)
    (hc : e.received = some (~~~e.check))
    (h : e.inconsistent = some n ∧ group = 1 ∨
      e.inconsistent = none ∧ s.disagrees e = some n ∧ group = 2) :
    s.importEnd e = s.endMismatch group n := by
  rw [State.importEnd, hn, hc, if_neg (by decide), if_neg (by simp)]
  rcases h with ⟨h, rfl⟩ | ⟨h, hd, rfl⟩
  · rw [h]
  · rw [h, hd]

end

end Sys2Proof.Machine.ImageProofs

open Sys2Proof Sys2Proof.Machine Sys2Proof.Machine.Laws Sys2Proof.Machine.MapProofs
  Sys2Proof.Machine.SessionProofs Sys2Proof.Machine.ImageProofs

/-- Settles O18: every refusal ends the session in the same way, with the words of its own check. -/
theorem importEndRefusalsEndTheSession : Obligations.ImportEndRefusalsEndTheSession := by
  refine ⟨fun e => inconsistent_eq_none_iff, fun s w rest ht => ⟨fun hp => ?_,
    fun e st r1 r2 hp he hor => ?_⟩⟩
  · exact refused_of_takes (exec_importEnd s) ht (guarded_out (by simpa using hp))
  · refine exec_of_takes (out := ⟨st, r1, r2, 0, State.endImport { s with cmdQ := rest }⟩)
      (exec_importEnd s) ht ?_
    rw [importEndCommand_importing (s := { s with cmdQ := rest }) hp he]
    rcases hor with ⟨hn, rfl, rfl, rfl⟩ | ⟨c, hn, hc, hne, rfl, rfl, rfl⟩ |
      ⟨n, hn, hc, hnamed, hlow, rfl, rfl, rfl⟩ | ⟨f, hn, hc, hnone, hf, hlow, rfl, rfl, rfl⟩
    · exact importEnd_incomplete hn
    · exact importEnd_checkFailed hn hc hne
    · exact importEnd_mismatch hn hc (.inl ⟨inconsistent_of_lowest hnamed hlow, rfl⟩)
    · exact importEnd_mismatch hn hc
        (.inr ⟨inconsistent_eq_none_iff.2 hnone, disagrees_of_lowest hf hlow, rfl⟩)

end
